-- ==== Sys2Proof/Config.lean ====
section
/-! DEFINITION. What an implementation fixes, and the free values: constants without a body, so that no proof can
know them. -/

namespace Sys2Proof

/-- The floating-point format of the host-side view (00_scope.md R6, parameter FLT). -/
inductive Flt where
  | binary32
  | binary64
  deriving DecidableEq, Repr, Inhabited

/-- The open parameter behind `Config.nSettle` (log entry 2). -/
opaque Config.settleExtra : Nat

/-- N_SETTLE, the ticks of one settle delay: any integer >= 1 (00_scope.md R6; log entry 2). -/
def Config.nSettle : Nat := Config.settleExtra + 1

/-- DW, the width of the delay counter: max(1, ceil(log2 N_SETTLE)) (00_scope.md R6). -/
def Config.delayWidth (n : Nat) : Nat := max 1 (Nat.clog 2 n)

/-- T_CLK, the period of clk in nanoseconds, open (00_scope.md R6). No result depends on it. -/
opaque Config.tClk : Rat

/-- FLT, open (00_scope.md R6). -/
opaque Config.flt : Flt

/-- The floating-point result of `c * 1.8 + 32` for a number `c`, a configuration function of the operand
(44_host_view.md R144; log entry 15). -/
opaque Config.fahrenheitRound : Flt → Rat → Rat

/-- The sign of the n-th floating-point zero (91_not_in_source.md N14, 93 U11; log entry 15). -/
opaque Config.zeroSign : Nat → Bool

/-- The level of `so` at the n-th free sample (20_memory.md R45; log entry 3). -/
opaque Config.freeSo : Nat → Bool

/-- The level of the select wire while the block does not drive it, after its n-th move (20_memory.md R37; log
entry 4). -/
opaque Config.floatSelect : Nat → Bool

/-- The level of the clock wire while the block does not drive it, after its n-th move (20_memory.md R37; log
entry 4). -/
opaque Config.floatClock : Nat → Bool

/-- Whether the device sees select before the clock where both wires move at once, at that tick and that move: the
spec does not say (20_memory.md R46; log entry 4). -/
opaque Config.selectFirst : Nat → Nat → Bool

/-- What the host does to `rst` once its script has ended (log entry 5). -/
opaque Config.freeRst : Nat → Bool

/-- What the host does to `cmd_valid` once its script has ended (log entry 5). -/
opaque Config.freeValid : Nat → Bool

/-- What the host does to `cmd` once its script has ended (log entry 5). -/
opaque Config.freeCmd : Nat → BitVec 2

/-- The physical pins one block is bound to when it is instantiated (10_state.md R16: wiring, no state). -/
structure PinBinding where
  clockPin  : Nat
  selectPin : Nat
  dataPin   : Nat
  deriving DecidableEq, Repr

end Sys2Proof
end

