-- ==== Sys2Proof/Word.lean ====
section
/-! DEFINITION. The two words of the block that have a width of their own: the frame and the response. -/

namespace Sys2Proof

/-- A measurement frame, 32 bits, bit 31 the first bit shifted in (30_encoding.md R55). -/
abbrev Frame := BitVec 32

/-- The response port `data`: a 14-bit two's complement count (30_encoding.md R67). -/
abbrev Count := BitVec 14

end Sys2Proof
end

