-- ==== Sys2Proof/Syntax.lean ====
section
/-! DEFINITION. The rows of spec/opcode_table.json, one constructor each, and the lines of a host's program
(30_encoding.md R72). -/

namespace Sys2Proof

/-- One constructor per row of the table. No row has an operand field (30_encoding.md R62, R65): an operand
is read from the state. -/
inductive Instr where
  | init        -- INIT
  | rdTc        -- RD_TC
  | rdInt       -- RD_INT
  | reserved00  -- RESERVED_00
  | acq         -- ACQ
  | classify    -- CLASSIFY
  | extTc       -- EXT_TC
  | extInt      -- EXT_INT
  | rdTcC       -- RD_TC_C
  | rdIntC      -- RD_INT_C
  | rdTcF       -- RD_TC_F
  | rdIntF      -- RD_INT_F
  | getErr      -- GET_ERR
  | getErrstr   -- GET_ERRSTR
  | celsiusTc   -- CELSIUS_TC
  | celsiusInt  -- CELSIUS_INT
  | cToF        -- C_TO_F
  deriving DecidableEq, Repr

/-- The three formats of the table: `c` a code on `cmd`, `u` a micro-operation, `p` a host-side row
(30_encoding.md R65, R71, R74). -/
inductive Format where
  | c
  | u
  | p
  deriving DecidableEq, Repr

/-- The format column of the table. -/
def Instr.format : Instr → Format
  | .init => .c
  | .rdTc => .c
  | .rdInt => .c
  | .reserved00 => .c
  | .acq => .u
  | .classify => .u
  | .extTc => .u
  | .extInt => .u
  | .rdTcC => .p
  | .rdIntC => .p
  | .rdTcF => .p
  | .rdIntF => .p
  | .getErr => .p
  | .getErrstr => .p
  | .celsiusTc => .p
  | .celsiusInt => .p
  | .cToF => .p

/-- What drives the data-in pin `so` (20_memory.md R45, R46; 30_encoding.md R72). -/
inductive SoSource where
  /-- Every sample is a draw (R45). -/
  | any
  /-- The coming samples in time order, `SO(b0 b1 ...)`; after the last, draws. -/
  | script (bits : List Bool)
  /-- The reference device `DEV(F)` after `n` falling clock edges since select fell (R46). -/
  | dev (frame : Frame) (n : Nat)
  deriving DecidableEq, Repr

/-- What the host (or the test bench) does at one step (30_encoding.md R72; log entries 1 and 5). -/
inductive HostAct where
  /-- One tick of `clk` with these levels on `rst`, `cmd_valid` and `cmd`: the tick level. -/
  | clock (rst cmdValid : Bool) (cmd : BitVec 2)
  /-- A command code offered until it is accepted and run to its completion: the operation level. -/
  | issue (cmd : BitVec 2)
  /-- A host-side row of the table (format P). -/
  | call (i : Instr)
  /-- The test bench puts another source on the data-in pin: `<- DEV(F)`, `<- SO(...)`. -/
  | attach (l : SoSource)
  deriving DecidableEq, Repr

end Sys2Proof
end

