-- ==== Sys2Proof/Machine/State.lean ====
section
/-! DEFINITION. The state of one block with its environment, as plain data, and the state after reset. -/

namespace Sys2Proof.Machine

/-- The six status values (10_state.md R11). Codes 6 and 7 do not exist (30_encoding.md R64). -/
inductive Status where
  | none
  | openCircuit
  | gndShort
  | vccShort
  | readError
  | notInitialized
  deriving DecidableEq, Repr

/-- The four phases of the sequencer (10_state.md R18). -/
inductive Phase where
  | idle
  | sel
  | hi
  | lo
  deriving DecidableEq, Repr

/-- PINCFG: the three direction bits (10_state.md R13). -/
structure PinCfg where
  /-- Bit 2: the data pin is configured as an input. -/
  soIe  : Bool
  /-- Bit 1: the select pin is configured as an output. -/
  csOe  : Bool
  /-- Bit 0: the clock pin is configured as an output. -/
  sckOe : Bool
  deriving DecidableEq, Repr

/-- A host-side temperature in the exact reading (44_host_view.md section 2). -/
inductive Temp where
  | nan
  | num (q : Rat)
  deriving DecidableEq, Repr

/-- A host-side temperature in the floating-point reading: the one abstract NaN, or a number with its sign bit
(93 U11; log entry 15). -/
inductive FTemp where
  | nan
  | num (q : Rat) (neg : Bool)
  deriving DecidableEq, Repr

/-- The six fixed labels (44_host_view.md R142). -/
inductive Label where
  | errorNone
  | errorOpenCircuit
  | errorGndShort
  | errorVccShort
  | errorRead
  | errorNotInitialized
  deriving DecidableEq, Repr

/-- The three pins of the link (00_scope.md R2). -/
inductive Pin where
  | sck
  | csN
  | so
  deriving DecidableEq, Repr

/-- The observable events of the link (00_scope.md section 5, 41_acquire.md R81). -/
inductive PinEvent where
  /-- PinMode: the direction of a pin, output or input. -/
  | pinMode (p : Pin) (output : Bool)
  /-- PinWrite(cs_n, level). -/
  | select (high : Bool)
  /-- PinWrite(sck, level). -/
  | clock (high : Bool)
  /-- PinRead(so) and the level it read. -/
  | sample (level : Bool)
  /-- Delay(): one settle delay. -/
  | delay
  /-- A reset tick disabled the outputs (70_reset_and_hazards.md R176). -/
  | reset
  deriving DecidableEq, Repr

/-- The state: the twelve registers of 10_state.md R10, the inputs and the environment, the host-side view, and the
model's own fields (INVENTORY.md, State). -/
@[ext]
structure State where
  /-- STATUS (R11). -/
  status : Status
  /-- PINCFG (R13). -/
  pincfg : PinCfg
  /-- CS_N, the select latch, true is high (R14). -/
  csN : Bool
  /-- SCK, the clock latch, true is high (R15). -/
  sck : Bool
  /-- PH (R18). -/
  ph : Phase
  /-- BITCNT (R19). -/
  bitcnt : BitVec 5
  /-- DLY (R20; log entry 14). -/
  dly : Nat
  /-- SHREG (R21). -/
  shreg : Frame
  /-- OPSEL, false is RD_TC (R23). -/
  opsel : Bool
  /-- DONE (R24). -/
  done : Bool
  /-- OK (R24). -/
  ok : Bool
  /-- DATA (R24). -/
  data : Count
  /-- What the host does at the coming step: the input ports rst, cmd_valid, cmd (R27). -/
  host : HostAct
  /-- What the host does at the steps after it (log entry 5). -/
  script : List HostAct
  /-- What drives the input port so (R27; log entry 3). -/
  so : SoSource
  /-- The combinational result of CLASSIFY (42_interpret.md R119; log entry 8). -/
  clsOut : Status
  /-- The combinational result of EXT_TC or EXT_INT (42_interpret.md R119; log entry 8). -/
  extOut : Int
  /-- The host's temperature, exact reading (44_host_view.md R136; log entry 7). -/
  temp : Temp
  /-- The host's temperature, floating-point reading (44_host_view.md R144; log entry 7). -/
  ftemp : FTemp
  /-- What the last GET_ERR returned (44_host_view.md R141; log entry 7). -/
  errSeen : Status
  /-- What the last GET_ERRSTR returned (44_host_view.md R142; log entry 7). -/
  label : Label
  /-- The pin events so far, newest first (41_acquire.md R81; log entry 9). -/
  trace : List PinEvent
  /-- The ticks of clk so far (log entry 9). -/
  ticks : Nat
  /-- The index of the next free value (log entry 9). -/
  draws : Nat
  /-- How often the wires that the block does not drive have moved (20_memory.md R37; log entry 4). -/
  moves : Nat
  deriving DecidableEq, Repr

/-- The block "raises nothing" and cannot hang (60_exceptions.md R150, 41_acquire.md R96), so no step ends in a
fault: the type has no constructor, and nothing raises one (log entry 24). -/
inductive Fault where
  deriving DecidableEq, Repr

/-- Why a step or a meaning is refused. -/
inductive Refusal where
  /-- Raised by `exec` alone, for a row that has no meaning in the model; no row is left so. Safe. -/
  | notModelled (mnemonic : String)
  /-- Raised by the meaning of ACQ when STATUS is NOT_INITIALIZED: "behavior if called uninitialized is undefined at
  this layer", and a model "must not give it a value" (41_acquire.md R97, 93 U1; log entry 11). Safe: no command of
  the block leads there. -/
  | acqUninitialized
  /-- Raised by `step` when the host's act calls a row that is not host-side: "a host cannot issue them alone"
  (30_encoding.md R74; log entry 12). Safe: no host can do it. -/
  | notIssuable
  /-- Raised by `stepBlock` alone, when two blocks of the system are wired to a common pin: "a model refuses such a
  configuration" (60_exceptions.md R168, 20_memory.md R52, 93 U2; log entry 17). Safe. -/
  | sharedPins
  deriving DecidableEq, Repr

/-- The state after reset: the registers as 10_state.md R33 states them, an idle bus, nothing known of the
environment, and nothing observed yet (log entries 5, 7, 8, 9). -/
def State.reset : State where
  status := .notInitialized
  pincfg := ⟨false, false, false⟩
  csN := true
  sck := false
  ph := .idle
  bitcnt := 0
  dly := 0
  shreg := 0
  opsel := false
  done := false
  ok := false
  data := 0
  host := .clock false false 0
  script := []
  so := .any
  clsOut := .notInitialized
  extOut := 0
  temp := .nan
  ftemp := .nan
  errSeen := .notInitialized
  label := .errorNotInitialized
  trace := []
  ticks := 0
  draws := 0
  moves := 0

end Sys2Proof.Machine
end

