-- ==== Sys2Proof/Machine/Ops.lean ====
section
/-! DEFINITION. The named operations on the pins, the delay counter, the clock and the response registers. The spec
has no memory (20_memory.md R35) and no exception entry or return (60_exceptions.md R150, R158), so there is none
here. -/

namespace Sys2Proof.Machine

/-- The level of the select wire: the latch when its output is enabled, else any value (20_memory.md R37). -/
def State.selectWire (s : State) : Bool :=
  if s.pincfg.csOe then s.csN else Config.floatSelect s.moves

/-- The level of the clock wire: the latch when its output is enabled, else any value (20_memory.md R37). -/
def State.clockWire (s : State) : Bool :=
  if s.pincfg.sckOe then s.sck else Config.floatClock s.moves

/-- The reference device sees the select wire go from `before` to `after`: its counter is zeroed when select falls
(20_memory.md R46). -/
def deviceOnSelect (before after : Bool) : SoSource → SoSource
  | .any => .any
  | .script bits => .script bits
  | .dev f n => .dev f (if before && !after then 0 else n)

/-- The reference device sees the clock wire go from `before` to `after` while the select wire is at `select`: it
counts each falling edge while select is low (20_memory.md R46). -/
def deviceOnClock (select before after : Bool) : SoSource → SoSource
  | .any => .any
  | .script bits => .script bits
  | .dev f n => .dev f (if !select && before && !after then n + 1 else n)

/-- What the reference device makes of the wires going from where they stand in `s` to where they stand in `t`, all at
once, whatever moved them: a latch write, a direction bit, or an undriven wire by itself (20_memory.md R46). Where both
wires move it is open which it sees first (log entry 4). -/
def seenByDevice (s t : State) : SoSource :=
  match s.so with
  | .any => .any
  | .script bits => .script bits
  | .dev f n =>
    if Config.selectFirst s.ticks s.moves then
      deviceOnClock t.selectWire s.clockWire t.clockWire (deviceOnSelect s.selectWire t.selectWire (.dev f n))
    else
      deviceOnSelect s.selectWire t.selectWire (deviceOnClock s.selectWire s.clockWire t.clockWire (.dev f n))

/-- The wires that the block does not drive take any level again (20_memory.md R37), and the device sees it. -/
def moveWires (s : State) : State :=
  let t := { s with moves := s.moves + 1 }
  { t with so := seenByDevice s t }

/-- PinMode(sck, out) (20_memory.md R36). -/
def enableSck (s : State) : State :=
  { s with pincfg := { s.pincfg with sckOe := true }, trace := .pinMode .sck true :: s.trace }

/-- PinMode(cs_n, out) (20_memory.md R36). -/
def enableCsN (s : State) : State :=
  { s with pincfg := { s.pincfg with csOe := true }, trace := .pinMode .csN true :: s.trace }

/-- PinMode(so, in) (20_memory.md R36). -/
def enableSo (s : State) : State :=
  { s with pincfg := { s.pincfg with soIe := true }, trace := .pinMode .so false :: s.trace }

/-- PinWrite(cs_n, level), the latch alone (20_memory.md R36). -/
def latchCsN (level : Bool) (s : State) : State := { s with csN := level, trace := .select level :: s.trace }

/-- PinWrite(sck, level), the latch alone (20_memory.md R36). -/
def latchSck (level : Bool) (s : State) : State := { s with sck := level, trace := .clock level :: s.trace }

/-- PinWrite(cs_n, level), with what the device makes of it (20_memory.md R36, R46). -/
def writeCsN (level : Bool) (s : State) : State :=
  let t := latchCsN level s
  { t with so := deviceOnSelect s.selectWire t.selectWire s.so }

/-- PinWrite(sck, level), with what the device makes of it (20_memory.md R36, R46). -/
def writeSck (level : Bool) (s : State) : State :=
  let t := latchSck level s
  { t with so := deviceOnClock s.selectWire s.clockWire t.clockWire s.so }

/-- The level of port `so` now (20_memory.md R45, R46, 30_encoding.md R72). -/
def State.soLevel (s : State) : Bool :=
  match s.so with
  | .any => Config.freeSo s.draws
  | .script [] => Config.freeSo s.draws
  | .script (b :: _) => b
  | .dev f n => if !s.selectWire && decide (n ≤ 31) then f.getLsbD (31 - n) else Config.freeSo s.draws

/-- A scripted source moves to its next sample; the others stay (30_encoding.md R72). -/
def sourceAfterSample : SoSource → SoSource
  | .any => .any
  | .script bits => .script bits.tail
  | .dev f n => .dev f n

/-- PinRead(so): the trace shows the level, and the next free value is a fresh one (20_memory.md R36, R45). -/
def readSo (s : State) : State :=
  { s with
    so := sourceAfterSample s.so
    trace := .sample s.soLevel :: s.trace
    draws := s.draws + 1 }

/-- Bit `i` of the frame written with `b`, as the tick level writes it (41_acquire.md R86, R88). -/
def assignBit (f : Frame) (i : Nat) (b : Bool) : Frame :=
  if b then f ||| (1#32 <<< i) else f &&& ~~~(1#32 <<< i)

/-- Bit `i` of the frame set "if high", as the operation level does it (41_acquire.md R81, R83). -/
def setIfHigh (f : Frame) (i : Nat) (b : Bool) : Frame :=
  if b then f ||| (1#32 <<< i) else f

/-- SHREG[i] <- so (41_acquire.md R86, R88). -/
def sampleInto (i : Nat) (s : State) : State :=
  { readSo s with shreg := assignBit s.shreg i s.soLevel }

/-- "Sample the data pin; if high, set the corresponding bit in the accumulating result" (41_acquire.md R83). -/
def accumulate (i : Nat) (s : State) : State :=
  { readSo s with shreg := setIfHigh s.shreg i s.soLevel }

/-- One tick of the clock has passed. -/
def countTick (s : State) : State := { s with ticks := s.ticks + 1 }

/-- A tick at which no command completes: DONE takes its default 0 (10_state.md R24, 43_read_commands.md R134). -/
def idleTick (s : State) : State := { countTick s with done := false }

/-- Delay() at the operation level: N ticks pass and the counter has run down (00_scope.md section 5, 10_state.md
R20). -/
def delay (n : Nat) (s : State) : State :=
  { s with dly := 0, ticks := s.ticks + n, trace := .delay :: s.trace }

/-- Delay() begins at the tick level: DLY <- N - 1 (10_state.md R20). -/
def startDelay (n : Nat) (s : State) : State :=
  { s with dly := n - 1, trace := .delay :: s.trace }

/-- The N-bit pattern `tc_14` of an integer (00_scope.md section 5). -/
def tc14 (z : Int) : Count := BitVec.ofInt 14 z

/-- respond(r): DONE <- 1; OK and DATA show the result, or 0 and 0 when there is none (10_state.md R24,
30_encoding.md R67). -/
def respond (r : Option Int) (s : State) : State :=
  { s with done := true, ok := r.isSome, data := (r.map tc14).getD 0 }

/-- A tick with rst = 1: every register takes its reset value (10_state.md R33, 70_reset_and_hazards.md R175 to R177).
The host's own variables stay, and so does the environment, but that the device sees the wires go as the outputs are
disabled (20_memory.md R46; log entry 20). -/
def resetTick (s : State) : State :=
  let t := { s with
    status := .notInitialized
    pincfg := ⟨false, false, false⟩
    csN := true
    sck := false
    ph := .idle
    bitcnt := 0
    dly := 0
    shreg := 0
    opsel := false
    done := false
    ok := false
    data := 0
    trace := .reset :: s.trace
    ticks := s.ticks + 1 }
  { t with so := seenByDevice s t }

end Sys2Proof.Machine
end

