-- ==== Sys2Proof/Machine/Operands.lean ====
section
/-! DEFINITION. The fields of a frame and the two operands assembled from them (30_encoding.md R55, R62), and the
count a host reads on port `data`. -/

namespace Sys2Proof.Machine

/-- TC_SIGN, bit 31 (R55; conflict C1). -/
def tcSign (f : Frame) : Bool := f.getLsbD 31

/-- TC_MAG, bits 30:18 (R55, R56; conflict C3). -/
def tcMag (f : Frame) : BitVec 13 := f.extractLsb' 18 13

/-- RSV17, bit 17 (R60). -/
def rsv17 (f : Frame) : Bool := f.getLsbD 17

/-- FAULT, bit 16 (R57). -/
def faultFlag (f : Frame) : Bool := f.getLsbD 16

/-- INT_SIGN, bit 15 (R55; conflict C2). -/
def intSign (f : Frame) : Bool := f.getLsbD 15

/-- INT_MAG, bits 14:4 (R55, R58). -/
def intMag (f : Frame) : BitVec 11 := f.extractLsb' 4 11

/-- RSV3, bit 3 (R60). -/
def rsv3 (f : Frame) : Bool := f.getLsbD 3

/-- SCV, bit 2 (R59). -/
def scv (f : Frame) : Bool := f.getLsbD 2

/-- SCG, bit 1 (R59). -/
def scg (f : Frame) : Bool := f.getLsbD 1

/-- OC, bit 0 (R59). -/
def oc (f : Frame) : Bool := f.getLsbD 0

/-- A sign and a magnitude as an integer: "negate if set" (R62). -/
def signMag (sign : Bool) (mag : Nat) : Int := if sign then -(mag : Int) else mag

/-- EXT_TC(f), the count of 0.25 degree steps (42_interpret.md R112). -/
def tcCount (f : Frame) : Int := signMag (tcSign f) (tcMag f).toNat

/-- EXT_INT(f), the count of 0.0625 degree steps (42_interpret.md R114). -/
def intCount (f : Frame) : Int := signMag (intSign f) (intMag f).toNat

/-- `data` read as a 14-bit two's complement integer (44_host_view.md R136). -/
def State.count (s : State) : Int := s.data.toInt

end Sys2Proof.Machine
end

