-- ==== Sys2Proof/Machine/Flags.lean ====
section
/-! DEFINITION. The status computed from a frame, the flag `err`, the codes on the ports, and the test that decides
whether a read yields a value. -/

namespace Sys2Proof.Machine

/-- CLASSIFY(f): seven arms, the first that matches wins (42_interpret.md R100 to R107). -/
def classifyFrame (f : Frame) : Status :=
  let rsv := rsv17 f || rsv3 f
  let fault := faultFlag f
  let any := scv f || scg f || oc f
  if rsv then .readError
  else if any && !fault then .readError
  else if fault && !any then .readError
  else if oc f then .openCircuit
  else if scg f then .gndShort
  else if scv f then .vccShort
  else .none

/-- The 3-bit codes of the status (30_encoding.md R63). -/
def Status.code : Status → BitVec 3
  | .none => 0
  | .openCircuit => 1
  | .gndShort => 2
  | .vccShort => 3
  | .readError => 4
  | .notInitialized => 5

/-- The 2-bit codes of the phase (30_encoding.md R69). -/
def Phase.code : Phase → BitVec 2
  | .idle => 0
  | .sel => 1
  | .hi => 2
  | .lo => 3

/-- PINCFG as three bits, SO_IE on top (10_state.md R13). -/
def PinCfg.code (p : PinCfg) : BitVec 3 :=
  BitVec.ofBool p.soIe ++ BitVec.ofBool p.csOe ++ BitVec.ofBool p.sckOe

/-- The flag `err` (10_state.md R25). -/
def State.err (s : State) : Bool := s.status != .none

/-- What a read whose frame `f` classified `st` delivers (43_read_commands.md R122, R123, R126, R127). -/
def readResult (opsel : Bool) (st : Status) (f : Frame) : Option Int :=
  if opsel then
    if st = .readError then none else some (intCount f)
  else
    if st = .none then some (tcCount f) else none

end Sys2Proof.Machine
end

