-- ==== Sys2Proof/Machine/Acquire.lean ====
section
/-! DEFINITION. The acquisition and the interpretation of a frame at the operation level, over the whole state:
41_acquire.md R81 and the tails of 43_read_commands.md R120 and R124. Throughout, `n` is N_SETTLE. -/

namespace Sys2Proof.Machine

/-- One iteration of step 2 of ACQ, for frame bit `i`: sample, clock high, delay, clock low, delay
(41_acquire.md R83). BITCNT is the loop index (10_state.md R19). -/
def bitCycle (n i : Nat) (s : State) : State :=
  delay n (writeSck false (delay n (writeSck true (accumulate i { s with bitcnt := BitVec.ofNat 5 i }))))

/-- Step 2 of ACQ for the bits `k - 1` down to 0 (41_acquire.md R83). -/
def shiftIn (n : Nat) : Nat → State → State
  | 0, s => s
  | k + 1, s => shiftIn n k (bitCycle n k s)

/-- ACQ: SHREG cleared, select low, delay, 32 bits from bit 31 down, select high (41_acquire.md R81, R90). DONE is 0
once a tick has passed without a completion (10_state.md R24). -/
def acquire (n : Nat) (s : State) : State :=
  writeCsN true (shiftIn n 32 (delay n (writeCsN false { idleTick s with shreg := 0 })))

/-- CLASSIFY on SHREG; writes no register (42_interpret.md R100). -/
def runClassify (s : State) : State := { s with clsOut := classifyFrame s.shreg }

/-- EXT_TC on SHREG; writes no register (42_interpret.md R112). -/
def runExtTc (s : State) : State := { s with extOut := tcCount s.shreg }

/-- EXT_INT on SHREG; writes no register (42_interpret.md R114). -/
def runExtInt (s : State) : State := { s with extOut := intCount s.shreg }

/-- STATUS <- the classification (42_interpret.md R109). -/
def recordStatus (s : State) : State := { s with status := s.clsOut }

/-- The tail of RD_TC, after the acquisition (43_read_commands.md R120, R122, R123). -/
def finishTc (s : State) : State :=
  let t := recordStatus (runClassify s)
  if t.clsOut = .none then
    let u := runExtTc t
    respond (some u.extOut) u
  else respond none t

/-- The tail of RD_INT, after the acquisition (43_read_commands.md R124, R126, R127). -/
def finishInt (s : State) : State :=
  let t := recordStatus (runClassify s)
  if t.clsOut = .readError then respond none t
  else
    let u := runExtInt t
    respond (some u.extOut) u

/-- A read refused by the guard completes at the accepting tick and yields no value (43_read_commands.md R121,
R125). -/
def refuseRead (s : State) : State := respond none (countTick s)

/-- RD_TC from an idle block, whole (43_read_commands.md R120). -/
def readTc (n : Nat) (s : State) : State :=
  if s.status = .notInitialized then refuseRead s
  else finishTc (acquire n { s with opsel := false })

/-- RD_INT from an idle block, whole (43_read_commands.md R124). -/
def readInt (n : Nat) (s : State) : State :=
  if s.status = .notInitialized then refuseRead s
  else finishInt (acquire n { s with opsel := true })

/-- INIT at an idle block, at one tick (40_init.md R75, R79): the device sees the wires where they are after all five
pin actions, and nothing in between (20_memory.md R46). -/
def initBlock (s : State) : State :=
  let t := respond (some 0)
    { latchSck false (latchCsN true (enableSo (enableCsN (enableSck (countTick s))))) with status := .none }
  { t with so := seenByDevice s t }

end Sys2Proof.Machine
end

