-- ==== Sys2Proof/Machine/Sequencer.lean ====
section
/-! DEFINITION. The sequencer, one tick at a time (41_acquire.md R85 to R89). Throughout, `n` is N_SETTLE. -/

namespace Sys2Proof.Machine

/-- The start tick of an acquisition (41_acquire.md R85). -/
def startAcq (n : Nat) (sel : Bool) (s : State) : State :=
  startDelay n (writeCsN false
    { idleTick s with opsel := sel, shreg := 0, bitcnt := 31, ph := .sel })

/-- The tick at which an idle block accepts a read command: the guard, then the start (43_read_commands.md R133). -/
def beginRead (n : Nat) (sel : Bool) (s : State) : State :=
  if s.status = .notInitialized then refuseRead s else startAcq n sel s

/-- A tick inside a settle delay: "no register but DLY changes during a delay" (70_reset_and_hazards.md R192). -/
def waitTick (s : State) : State := { countTick s with dly := s.dly - 1 }

/-- The tick that ends the select delay or a clock-low delay before another bit: the sample into bit `i` and the
rising edge (41_acquire.md R86, R88, R91). -/
def riseTick (n i : Nat) (s : State) : State :=
  { startDelay n (writeSck true (sampleInto i (countTick s))) with ph := .hi }

/-- The tick that ends a clock-high delay: the falling edge (41_acquire.md R87). -/
def fallTick (n : Nat) (s : State) : State :=
  { startDelay n (writeSck false (countTick s)) with ph := .lo }

/-- The completion tick: select high, classification, response (41_acquire.md R89). -/
def completeTick (s : State) : State :=
  let t := { writeCsN true (countTick s) with ph := .idle }
  if t.opsel then finishInt t else finishTc t

/-- A tick in phase SEL (41_acquire.md R86). -/
def selTick (n : Nat) (s : State) : State :=
  if s.dly ≠ 0 then waitTick { s with done := false } else riseTick n 31 { s with done := false }

/-- A tick in phase HI (41_acquire.md R87). -/
def hiTick (n : Nat) (s : State) : State :=
  if s.dly ≠ 0 then waitTick s else fallTick n s

/-- A tick in phase LO (41_acquire.md R88, R89). -/
def loTick (n : Nat) (s : State) : State :=
  if s.dly ≠ 0 then waitTick s
  else if s.bitcnt ≠ 0 then
    riseTick n (s.bitcnt.toNat - 1) { s with bitcnt := s.bitcnt - 1 }
  else completeTick s

/-- A tick without reset at which no command is accepted (43_read_commands.md R134). -/
def seqTick (n : Nat) (s : State) : State :=
  match s.ph with
  | .idle => idleTick s
  | .sel => selTick n s
  | .hi => hiTick n s
  | .lo => loTick n s

/-- A command offered at the operation level: an idle block takes it and does `f`; a busy block does not accept it
and goes on with its acquisition by one tick, the offer standing (10_state.md R29; log entry 13). -/
def offer (f : State → State) (s : State) : State :=
  if s.ph = .idle then f s else seqTick Config.nSettle s

end Sys2Proof.Machine
end

