-- ==== Sys2Proof/Machine/Command.lean ====
section
/-! DEFINITION. The rows of format C: the three host commands and the reserved code, at the operation level. -/

namespace Sys2Proof.Machine

/-- INIT (40_init.md R75 to R79). -/
def execInit (s : State) : Host.Outcome State Fault Refusal :=
  .next (offer initBlock s)

/-- RD_TC (43_read_commands.md R120 to R123, R128 to R131). -/
def execRdTc (s : State) : Host.Outcome State Fault Refusal :=
  .next (offer (readTc Config.nSettle) s)

/-- RD_INT (43_read_commands.md R124 to R131). -/
def execRdInt (s : State) : Host.Outcome State Fault Refusal :=
  .next (offer (readInt Config.nSettle) s)

/-- RESERVED_00: "no register changes except that DONE takes its default 0" (43_read_commands.md R132; log entry
10). A busy block goes on by one tick. -/
def execReserved00 (s : State) : Host.Outcome State Fault Refusal :=
  .next (offer idleTick s)

end Sys2Proof.Machine
end

