-- ==== Sys2Proof/Machine/HostView.lean ====
section
/-! DEFINITION. The rows of format P: the host-side view (44_host_view.md). A host-side function reads the ports and
takes no tick of the block. -/

namespace Sys2Proof.Machine

/-- The thermocouple step, 0.25 degrees exactly (42_interpret.md R117). -/
def tcLsb : Rat := 1 / 4

/-- The internal step, 0.0625 degrees exactly (42_interpret.md R117). -/
def intLsb : Rat := 1 / 16

/-- `NaN if ok == 0, else count * lsb`, exact reading (44_host_view.md R136, R137). -/
def celsius (lsb : Rat) (ok : Bool) (count : Int) : Temp :=
  if ok then .num (count * lsb) else .nan

/-- `C_TO_F(c) = NaN if c is NaN, else c * 9/5 + 32`, exact reading (44_host_view.md R140, R144). -/
def fahrenheit : Temp → Temp
  | .nan => .nan
  | .num q => .num (q * (9 / 5) + 32)

/-- A number in the floating-point reading: a nonzero number has its own sign, a zero the sign `z` (93 U11). -/
def floatNum (z : Bool) (q : Rat) : FTemp := .num q (if q = 0 then z else decide (q < 0))

/-- The Celsius value in the floating-point reading: the product is exact (44_host_view.md R143). -/
def floatCelsius (z : Bool) (lsb : Rat) (ok : Bool) (count : Int) : FTemp :=
  if ok then floatNum z (count * lsb) else .nan

/-- The Fahrenheit value in the floating-point reading: NaN propagates, and the rounding is a configuration function
of the operand (44_host_view.md R140, R144). -/
def floatFahrenheit (z : Bool) : FTemp → FTemp
  | .nan => .nan
  | .num q _ => floatNum z (Config.fahrenheitRound Config.flt q)

/-- CELSIUS over the ports `ok` and `data`, both readings; the host keeps the result. -/
def runCelsius (lsb : Rat) (s : State) : State :=
  { s with
    temp := celsius lsb s.ok s.count
    ftemp := floatCelsius (Config.zeroSign s.draws) lsb s.ok s.count
    draws := s.draws + 1 }

/-- C_TO_F over the host's temperature, both readings; the host keeps the result. -/
def runFahrenheit (s : State) : State :=
  { s with
    temp := fahrenheit s.temp
    ftemp := floatFahrenheit (Config.zeroSign s.draws) s.ftemp
    draws := s.draws + 1 }

/-- The label of a status (44_host_view.md R142). -/
def Status.label : Status → Label
  | .none => .errorNone
  | .openCircuit => .errorOpenCircuit
  | .gndShort => .errorGndShort
  | .vccShort => .errorVccShort
  | .readError => .errorRead
  | .notInitialized => .errorNotInitialized

/-- The text of a label (44_host_view.md R142). -/
def Label.text : Label → String
  | .errorNone => "ERROR_NONE"
  | .errorOpenCircuit => "ERROR_OPEN_CIRCUIT"
  | .errorGndShort => "ERROR_GND_SHORT"
  | .errorVccShort => "ERROR_VCC_SHORT"
  | .errorRead => "ERROR_READ"
  | .errorNotInitialized => "ERROR_NOT_INITIALIZED"

/-- CELSIUS_TC (44_host_view.md R136). -/
def execCelsiusTc (s : State) : Host.Outcome State Fault Refusal :=
  .next (runCelsius tcLsb s)

/-- CELSIUS_INT (44_host_view.md R137). -/
def execCelsiusInt (s : State) : Host.Outcome State Fault Refusal :=
  .next (runCelsius intLsb s)

/-- C_TO_F (44_host_view.md R140, R144). -/
def execCToF (s : State) : Host.Outcome State Fault Refusal :=
  .next (runFahrenheit s)

/-- RD_TC_C = RD_TC; CELSIUS_TC (30_encoding.md R71, 44_host_view.md R136). -/
def execRdTcC (s : State) : Host.Outcome State Fault Refusal :=
  .next (offer (fun t => runCelsius tcLsb (readTc Config.nSettle t)) s)

/-- RD_INT_C = RD_INT; CELSIUS_INT (30_encoding.md R71, 44_host_view.md R137). -/
def execRdIntC (s : State) : Host.Outcome State Fault Refusal :=
  .next (offer (fun t => runCelsius intLsb (readInt Config.nSettle t)) s)

/-- RD_TC_F = RD_TC; CELSIUS_TC; C_TO_F (30_encoding.md R71, 44_host_view.md R138). -/
def execRdTcF (s : State) : Host.Outcome State Fault Refusal :=
  .next (offer (fun t => runFahrenheit (runCelsius tcLsb (readTc Config.nSettle t))) s)

/-- RD_INT_F = RD_INT; CELSIUS_INT; C_TO_F (30_encoding.md R71, 44_host_view.md R139). -/
def execRdIntF (s : State) : Host.Outcome State Fault Refusal :=
  .next (offer (fun t => runFahrenheit (runCelsius intLsb (readInt Config.nSettle t))) s)

/-- GET_ERR: a read of port `status`, which "issues no command and changes nothing" of the block (44_host_view.md
R141). -/
def execGetErr (s : State) : Host.Outcome State Fault Refusal :=
  .next { s with errSeen := s.status }

/-- GET_ERRSTR: a read of port `status` and the table of labels (44_host_view.md R142). -/
def execGetErrstr (s : State) : Host.Outcome State Fault Refusal :=
  .next { s with label := s.status.label }

end Sys2Proof.Machine
end

