-- ==== Sys2Proof/Machine/Micro.lean ====
section
/-! DEFINITION. The rows of format U: the micro-operations, each alone (30_encoding.md R74). -/

namespace Sys2Proof.Machine

/-- ACQ (41_acquire.md R80 to R84, R90). Uninitialized it has no meaning: "it must not" be given "a value" (R97;
log entry 11). -/
def execAcq (s : State) : Host.Outcome State Fault Refusal :=
  if s.status = .notInitialized then .refused .acqUninitialized
  else .next (offer (acquire Config.nSettle) s)

/-- CLASSIFY (42_interpret.md R100); its result stands in `clsOut`. -/
def execClassify (s : State) : Host.Outcome State Fault Refusal :=
  .next (runClassify s)

/-- EXT_TC (42_interpret.md R112); its result stands in `extOut`. -/
def execExtTc (s : State) : Host.Outcome State Fault Refusal :=
  .next (runExtTc s)

/-- EXT_INT (42_interpret.md R114); its result stands in `extOut`. -/
def execExtInt (s : State) : Host.Outcome State Fault Refusal :=
  .next (runExtInt s)

end Sys2Proof.Machine
end

