-- ==== Sys2Proof/Machine/Dispatch.lean ====
section
/-! DEFINITION. The meaning of every row of spec/opcode_table.json. -/

namespace Sys2Proof.Machine

def exec (i : Instr) (s : State) : Host.Outcome State Fault Refusal :=
  match i with
  -- format C: commands
  | .init => Sys2Proof.Machine.execInit s
  | .rdTc => Sys2Proof.Machine.execRdTc s
  | .rdInt => Sys2Proof.Machine.execRdInt s
  | .reserved00 => Sys2Proof.Machine.execReserved00 s
  -- format U: micro-operations
  | .acq => Sys2Proof.Machine.execAcq s
  | .classify => Sys2Proof.Machine.execClassify s
  | .extTc => Sys2Proof.Machine.execExtTc s
  | .extInt => Sys2Proof.Machine.execExtInt s
  -- format P: host-side rows
  | .rdTcC => Sys2Proof.Machine.execRdTcC s
  | .rdIntC => Sys2Proof.Machine.execRdIntC s
  | .rdTcF => Sys2Proof.Machine.execRdTcF s
  | .rdIntF => Sys2Proof.Machine.execRdIntF s
  | .getErr => Sys2Proof.Machine.execGetErr s
  | .getErrstr => Sys2Proof.Machine.execGetErrstr s
  | .celsiusTc => Sys2Proof.Machine.execCelsiusTc s
  | .celsiusInt => Sys2Proof.Machine.execCelsiusInt s
  | .cToF => Sys2Proof.Machine.execCToF s

end Sys2Proof.Machine
end

