-- ==== Sys2Proof/WellFormed.lean ====
section
/-! DEFINITION. The checks: which rows a host can put on `cmd`, which acts a host can do, and which pin bindings
are admitted. -/

namespace Sys2Proof

/-- A row is well formed as a command when it has a code on `cmd` (format C). The micro-operations "have no
command code; a host cannot issue them alone" (30_encoding.md R74), and a host-side row has no code of its own
(R71). -/
def Instr.wellFormed (i : Instr) : Bool := i.format == .c

/-- A host can put levels or a code on its ports and run a host-side row; it cannot run a micro-operation, and a
command goes through `cmd` (30_encoding.md R71, R74). -/
def HostAct.wellFormed : HostAct → Bool
  | .clock _ _ _ => true
  | .issue _ => true
  | .call i => i.format == .p
  | .attach _ => true

/-- Every pin of every binding, in order. -/
def PinBinding.pins (bs : List PinBinding) : List Nat :=
  bs.flatMap fun b => [b.clockPin, b.selectPin, b.dataPin]

/-- "A model refuses any configuration that wires two blocks to the same pins" (20_memory.md R52, 60_exceptions.md
R168, 93 U2): no pin is used twice. -/
def PinBinding.admitted (bs : List PinBinding) : Bool := decide (PinBinding.pins bs).Nodup

end Sys2Proof
end

