-- ==== Sys2Proof/Decode.lean ====
section
/-! DEFINITION. The command decoder, total, and after it the encoder (30_encoding.md R65, R66). -/

namespace Sys2Proof

/-- Why a word is no command. -/
inductive DecodeError where
  /-- The word does not fit the two bits of port `cmd`. -/
  | notTwoBits
  deriving DecidableEq, Repr

/-- The code table of 30_encoding.md R65: 01 INIT, 10 RD_TC, 11 RD_INT, and the reserved code 00 (R66). -/
def decodeCmd (c : BitVec 2) : Instr :=
  if c = 0b01#2 then .init
  else if c = 0b10#2 then .rdTc
  else if c = 0b11#2 then .rdInt
  else .reserved00

/-- A word as a command: its two bits, and nothing above them. -/
def decode (w : Nat) : Except DecodeError Instr :=
  if w < 4 then .ok (decodeCmd (BitVec.ofNat 2 w)) else .error .notTwoBits

/-- What the decoder reads from a word numbered as spec/opcode_table.json numbers it. The port has two bits; all
above them must be 0, however many bits the table gives the row (log entry 23). -/
def decodeTableWord (_nbits w : Nat) : Option Instr :=
  match decode w with
  | .ok i => some i
  | .error _ => none

/-- The code of a row of format C; the other rows have none (30_encoding.md R65, R71, R74). -/
def encode : Instr → Option (BitVec 2)
  | .init => some 0b01#2
  | .rdTc => some 0b10#2
  | .rdInt => some 0b11#2
  | .reserved00 => some 0b00#2
  | .acq => none
  | .classify => none
  | .extTc => none
  | .extInt => none
  | .rdTcC => none
  | .rdIntC => none
  | .rdTcF => none
  | .rdIntF => none
  | .getErr => none
  | .getErrstr => none
  | .celsiusTc => none
  | .celsiusInt => none
  | .cToF => none

end Sys2Proof
end

