-- ==== Sys2Proof/Machine/Ports.lean ====
section
/-! DEFINITION. The ports (10_state.md R27 to R29): the inputs as the host's coming act gives them, the outputs as
functions of the registers. -/

namespace Sys2Proof.Machine

/-- The output ports (10_state.md R28). -/
structure Outputs where
  cmdReady : Bool
  done     : Bool
  ok       : Bool
  data     : Count
  status   : BitVec 3
  err      : Bool
  csN      : Bool
  csOe     : Bool
  sck      : Bool
  sckOe    : Bool
  soIe     : Bool
  deriving DecidableEq, Repr

/-- Port `cmd_ready`: PH = IDLE (R29). -/
def State.cmdReady (s : State) : Bool := s.ph == .idle

/-- The output ports of a state: the table of 10_state.md section 7. -/
def State.outputs (s : State) : Outputs where
  cmdReady := s.cmdReady
  done := s.done
  ok := s.ok
  data := s.data
  status := s.status.code
  err := s.err
  csN := s.csN
  csOe := s.pincfg.csOe
  sck := s.sck
  sckOe := s.pincfg.sckOe
  soIe := s.pincfg.soIe

/-- The code a row makes the host put on `cmd`: a command its own, a host-side row that of the command in its
expansion (30_encoding.md R65, R71), every other row none. The reserved code is no command (R66). -/
def issuedCode : Instr → Option (BitVec 2)
  | .init => some 0b01#2
  | .rdTc => some 0b10#2
  | .rdInt => some 0b11#2
  | .reserved00 => none
  | .acq => none
  | .classify => none
  | .extTc => none
  | .extInt => none
  | .rdTcC => some 0b10#2
  | .rdIntC => some 0b11#2
  | .rdTcF => some 0b10#2
  | .rdIntF => some 0b11#2
  | .getErr => none
  | .getErrstr => none
  | .celsiusTc => none
  | .celsiusInt => none
  | .cToF => none

/-- Input port `rst` (R27). -/
def State.rst (s : State) : Bool :=
  match s.host with
  | .clock r _ _ => r
  | .issue _ => false
  | .call _ => false
  | .attach _ => false

/-- Input port `cmd_valid` (R27). -/
def State.cmdValid (s : State) : Bool :=
  match s.host with
  | .clock _ v _ => v
  | .issue _ => true
  | .call i => (issuedCode i).isSome
  | .attach _ => false

/-- Input port `cmd` (R27). -/
def State.cmd (s : State) : BitVec 2 :=
  match s.host with
  | .clock _ _ c => c
  | .issue c => c
  | .call i => (issuedCode i).getD 0
  | .attach _ => 0

/-- A command is accepted iff rst = 0, cmd_valid = 1 and cmd_ready = 1 (R29). The reserved code "is never accepted
as a command" (30_encoding.md R66). -/
def State.accepts (s : State) : Bool :=
  !s.rst && s.cmdValid && s.cmdReady && s.cmd != 0

end Sys2Proof.Machine
end

