-- ==== Sys2Proof/Machine/Tick.lean ====
section
/-! DEFINITION. The whole next-state function of one tick (43_read_commands.md R134), and several ticks in a row. -/

namespace Sys2Proof.Machine

/-- An idle block with cmd_valid = 1: the case on `cmd` of 43_read_commands.md R134. -/
def acceptTick (n : Nat) (cmd : BitVec 2) (s : State) : State :=
  if cmd = 0b01#2 then initBlock s
  else if cmd = 0b10#2 then beginRead n false s
  else if cmd = 0b11#2 then beginRead n true s
  else idleTick s

/-- tick(rst, cmd_valid, cmd) of 43_read_commands.md R134; the level of `so` comes from the state's source. -/
def tick (n : Nat) (rst cmdValid : Bool) (cmd : BitVec 2) (s : State) : State :=
  if rst then resetTick s
  else if s.ph = .idle then
    if cmdValid then acceptTick n cmd s else idleTick s
  else seqTick n s

/-- `k` ticks without reset and without an accepted command. -/
def seqTicks (n : Nat) : Nat → State → State
  | 0, s => s
  | k + 1, s => seqTicks n k (seqTick n s)

/-- The host's levels at one tick: rst, cmd_valid, cmd. -/
structure Levels where
  rst      : Bool
  cmdValid : Bool
  cmd      : BitVec 2
  deriving DecidableEq, Repr

/-- Ticks with the given levels, one after the other. -/
def runTicks (n : Nat) : List Levels → State → State
  | [], s => s
  | l :: ls, s => runTicks n ls (tick n l.rst l.cmdValid l.cmd s)

end Sys2Proof.Machine
end

