-- ==== Sys2Proof/Machine/Fetch.lean ====
section
/-! DEFINITION. What a step takes from the host, and what the host does next. The block fetches nothing
(20_memory.md R50): its commands come from the port. -/

namespace Sys2Proof.Machine

/-- The host takes up its next act: the script's, and after the script any levels on the ports at one tick (log
entry 5). -/
def takeAct (s : State) : State :=
  match s.script with
  | a :: rest => { s with host := a, script := rest }
  | [] =>
    { s with
      host := .clock (Config.freeRst s.draws) (Config.freeValid s.draws) (Config.freeCmd s.draws)
      draws := s.draws + 1 }

/-- The host goes on to its next act; meanwhile the wires that the block does not drive may have moved (20_memory.md
R37; log entry 4). -/
def nextAct (s : State) : State := takeAct (moveWires s)

/-- "The host must keep offering it until it is accepted" (10_state.md R29): a row that offers a command to a busy
block is not done with. -/
def waits (i : Instr) (s : State) : Bool := (issuedCode i).isSome && s.ph != .idle

/-- What follows the meaning of `i` run from `s`: the offer stands, or the host goes on. -/
def afterRow (i : Instr) (s : State) (o : Host.Outcome State Fault Refusal) : Host.Outcome State Fault Refusal :=
  match o with
  | .next t => .next (if waits i s then t else nextAct t)
  | .fault r => .fault r
  | .refused r => .refused r

/-- A step that is one raw tick of `clk`, at the tick level. -/
def clockStep (rst cmdValid : Bool) (cmd : BitVec 2) (s : State) : State :=
  nextAct (tick Config.nSettle rst cmdValid cmd s)

/-- A step at which the test bench puts another source on `so` (30_encoding.md R72); no tick passes. -/
def attachStep (l : SoSource) (s : State) : State := nextAct { s with so := l }

/-- The host offers the word `w` on `cmd`; a word that does not fit the port is not offered, and the bus stays idle
(log entries 6 and 23). -/
def offerWord (w : Nat) (s : State) : State :=
  { s with host := if w < 4 then .issue (BitVec.ofNat 2 w) else .clock false false 0 }

end Sys2Proof.Machine
end

