-- ==== Sys2Proof/Machine/Step.lean ====
section
/-! DEFINITION. One step of the machine: the host's coming act, done. -/

namespace Sys2Proof.Machine

/-- One step: a raw tick, a command offered and run, a host-side row, or another source on `so` (log entry 1). -/
def step (s : State) : Host.Outcome State Fault Refusal :=
  match s.host with
  | .clock rst cmdValid cmd => .next (clockStep rst cmdValid cmd s)
  | .issue cmd => afterRow (decodeCmd cmd) s (exec (decodeCmd cmd) s)
  | .call i => if HostAct.wellFormed (.call i) then afterRow i s (exec i s) else .refused .notIssuable
  | .attach l => .next (attachStep l s)

/-- The state with the word `w` offered on `cmd` (log entry 6). -/
def State.withFetchWord (s : State) (_nbits w : Nat) : State := offerWord w s

end Sys2Proof.Machine
end

