-- ==== Sys2Proof/Machine/System.lean ====
section
/-! DEFINITION. Several blocks side by side (60_exceptions.md R167): each with its own pins and its own state. -/

namespace Sys2Proof.Machine

/-- A block with the pins it is bound to (10_state.md R16). -/
structure Block where
  pins  : PinBinding
  state : State
  deriving DecidableEq, Repr

/-- A system of blocks is admitted when no pin is shared (20_memory.md R52, 60_exceptions.md R168, 93 U2). -/
def systemAdmitted (bs : List Block) : Bool := PinBinding.admitted (bs.map Block.pins)

/-- Block `k` makes one step; the others stand still, for blocks "share no state" (60_exceptions.md R167). A number
with no block behind it changes nothing. -/
def stepAt : Nat → List Block → Host.Outcome (List Block) Fault Refusal
  | _, [] => .next []
  | 0, b :: bs =>
    match step b.state with
    | .next t => .next ({ b with state := t } :: bs)
    | .fault r => .fault r
    | .refused r => .refused r
  | k + 1, b :: bs =>
    match stepAt k bs with
    | .next cs => .next (b :: cs)
    | .fault r => .fault r
    | .refused r => .refused r

/-- Block `k` of a system makes one step. "A model refuses such a configuration": a system with a shared pin has no
step (20_memory.md R52, 60_exceptions.md R168). That every block has the one N_SETTLE of Config, and that two blocks at
equal counters meet equal free values, is the model's choice: the spec ties neither between blocks (log entry 26). -/
def stepBlock (k : Nat) (bs : List Block) : Host.Outcome (List Block) Fault Refusal :=
  if systemAdmitted bs then stepAt k bs else .refused .sharedPins

end Sys2Proof.Machine
end

