-- ==== Sys2Proof/Safety.lean ====
section
/-! DEFINITION. What claims are stated in: the invariants of 10_state.md R34 and their companions, the admitted
host programs, and the one integration rule on timing. -/

namespace Sys2Proof.Machine

/-- The invariants (a) to (g) of 10_state.md R34, with N_SETTLE = `n`. (e), that STATUS is never 6 or 7, is the
type of `status` (30_encoding.md R64) and is said of the port's code. -/
structure State.Inv (n : Nat) (s : State) : Prop where
  /-- (a) -/
  config : (s.status = .notInitialized ∧ s.pincfg.code = 0b000#3) ∨
    (s.status ≠ .notInitialized ∧ s.pincfg.code = 0b111#3)
  /-- (b) -/
  select : s.csN = true ↔ s.ph = .idle
  /-- (c) -/
  clock : s.sck = true ↔ s.ph = .hi
  /-- (d) -/
  ready : s.ph ≠ .idle → s.status ≠ .notInitialized
  /-- (e) -/
  code : s.status.code ≠ 6#3 ∧ s.status.code ≠ 7#3
  /-- (f) -/
  delay : s.dly < n
  /-- (g) -/
  data : s.ok = false → s.data = 0

/-- Companions of R34 that the rules give: DONE is 0 during an acquisition (10_state.md R24, 41_acquire.md R85, R86),
BITCNT is 31 in phase SEL (41_acquire.md R86), and -8192 never stands on `data` (30_encoding.md R68). -/
structure State.Quiet (s : State) : Prop where
  done : s.ph ≠ .idle → s.done = false
  first : s.ph = .sel → s.bitcnt = 31
  data : s.data ≠ 0b10000000000000#14

/-- "The integrator must choose N_SETTLE so that N_SETTLE * T_CLK >= 100 ns" (70_reset_and_hazards.md R184), `tClk` in
nanoseconds. The block cannot tell, and no meaning depends on it. -/
def settleLongEnough (n : Nat) (tClk : Rat) : Prop := 100 ≤ n * tClk

/-- The integration rule for this machine's own parameters. -/
def timingMet : Prop := settleLongEnough Config.nSettle Config.tClk

/-- A host program is admitted when it never offers the reserved code (30_encoding.md R66, 93 U4) and does only what
a host can do. -/
def admittedAct (a : HostAct) : Bool :=
  a.wellFormed && match a with
    | .clock _ v c => !(v && c == 0)
    | .issue c => c != 0
    | .call _ => true
    | .attach _ => true

/-- Every act of a host program is admitted. -/
def admittedProgram (as : List HostAct) : Bool := as.all admittedAct

/-- The events of one acquisition with the samples `bits`, in time order (41_acquire.md R81). -/
def acqEvents (bits : List Bool) : List PinEvent :=
  [.select false, .delay] ++
    bits.flatMap (fun b => [.sample b, .clock true, .delay, .clock false, .delay]) ++ [.select true]

/-- A pin write among the events. -/
def PinEvent.isWrite : PinEvent → Bool
  | .pinMode _ _ => false
  | .select _ => true
  | .clock _ => true
  | .sample _ => false
  | .delay => false
  | .reset => false

/-- A sample among the events. -/
def PinEvent.isSample : PinEvent → Bool
  | .pinMode _ _ => false
  | .select _ => false
  | .clock _ => false
  | .sample _ => true
  | .delay => false
  | .reset => false

/-- The twelve registers of 10_state.md R10 are the same. -/
structure SameRegisters (s t : State) : Prop where
  status : t.status = s.status
  pincfg : t.pincfg = s.pincfg
  csN    : t.csN = s.csN
  sck    : t.sck = s.sck
  ph     : t.ph = s.ph
  bitcnt : t.bitcnt = s.bitcnt
  dly    : t.dly = s.dly
  shreg  : t.shreg = s.shreg
  opsel  : t.opsel = s.opsel
  done   : t.done = s.done
  ok     : t.ok = s.ok
  data   : t.data = s.data

/-- What the host holds is the same: its acts to come and the results of its functions. -/
structure SameHost (s t : State) : Prop where
  host    : t.host = s.host
  script  : t.script = s.script
  temp    : t.temp = s.temp
  ftemp   : t.ftemp = s.ftemp
  errSeen : t.errSeen = s.errSeen
  label   : t.label = s.label

/-- The link's environment and the bookkeeping are the same: no pin event, no sample, no tick, no move of
an undriven wire. -/
structure SameLink (s t : State) : Prop where
  so    : t.so = s.so
  trace : t.trace = s.trace
  ticks : t.ticks = s.ticks
  moves : t.moves = s.moves

/-- Where every acquisition leaves the pins and the sequencer: select high, clock low, idle, counters run down, the
directions as they were (41_acquire.md R98). -/
structure Rested (s t : State) : Prop where
  pincfg : t.pincfg = s.pincfg
  csN    : t.csN = true
  sck    : t.sck = false
  ph     : t.ph = .idle
  bitcnt : t.bitcnt = 0
  dly    : t.dly = 0

end Sys2Proof.Machine
end

