-- ==== Sys2Proof/Certificates/Slice0/Obligations.lean ====
section
/-! DEFINITION. The statements for the provers. Each docstring names the rule or section of spec/ it comes from. -/

open Sys2Proof Sys2Proof.Machine

/-! ## Encodings -/

/-- The code table of 30_encoding.md R65 and the reserved code of R66: the four codes, bit 1 marks a read, bit 0
then selects the field; no word that does not fit the port is a command (log entry 23). -/
def Obligations.CommandCodes : Prop :=
  decodeTableWord 2 0b00 = some .reserved00 ∧ decodeTableWord 2 0b01 = some .init ∧
  decodeTableWord 2 0b10 = some .rdTc ∧ decodeTableWord 2 0b11 = some .rdInt ∧
  (∀ c : BitVec 2, c.getLsbD 1 = true ↔ (decodeCmd c = .rdTc ∨ decodeCmd c = .rdInt)) ∧
  (∀ c : BitVec 2, c.getLsbD 1 = true → (c.getLsbD 0 = true ↔ decodeCmd c = .rdInt)) ∧
  (∀ w, 4 ≤ w → decode w = .error .notTwoBits)

/-- Decode and encode agree, both ways: a row with a code is what its code decodes to, every code is what its row
encodes to, and a row without a code (30_encoding.md R71, R74) has none. -/
def Obligations.DecodeEncodeAgree : Prop :=
  (∀ i : Instr, i.wellFormed = true → ∃ c, encode i = some c ∧ decode c.toNat = .ok i) ∧
  (∀ c : BitVec 2, encode (decodeCmd c) = some c) ∧
  (∀ i : Instr, i.wellFormed = false → encode i = none)

/-- The six status codes of 30_encoding.md R63, and no seventh. -/
def Obligations.StatusCodes : Prop :=
  Status.none.code = 0 ∧ Status.openCircuit.code = 1 ∧ Status.gndShort.code = 2 ∧
  Status.vccShort.code = 3 ∧ Status.readError.code = 4 ∧ Status.notInitialized.code = 5 ∧
  (∀ c : BitVec 3, (∃ a : Status, a.code = c) ↔ c.toNat < 6) ∧ (∀ a b : Status, a.code = b.code → a = b)

/-! ## Reset, ports, invariants -/

/-- A tick with rst = 1 gives every register its reset value, whatever the block was doing and whatever command is
offered, and so does `State.reset` (10_state.md section 8, 70_reset_and_hazards.md R177). The host's variables and
the source on so stay, a device with its frame (the model's choice, log entry 20); its count follows the wires
(DeviceFollowsTheWires). -/
def Obligations.ResetSetsEveryRegister : Prop :=
  (∀ (n : Nat) (v : Bool) (c : BitVec 2) (s : State),
    SameRegisters State.reset (tick n true v c s) ∧ SameHost s (tick n true v c s) ∧
    ((∀ f k, s.so ≠ .dev f k) → (tick n true v c s).so = s.so) ∧
    (∀ f k, s.so = .dev f k → ∃ m, (tick n true v c s).so = .dev f m)) ∧
  State.reset.status = .notInitialized ∧ State.reset.pincfg.code = 0b000#3 ∧ State.reset.csN = true ∧
  State.reset.sck = false ∧ State.reset.ph = .idle ∧ State.reset.bitcnt = 0 ∧ State.reset.dly = 0 ∧
  State.reset.shreg = 0 ∧ State.reset.opsel = false ∧ State.reset.done = false ∧ State.reset.ok = false ∧
  State.reset.data = 0

/-- The output ports are what the table of 10_state.md section 7 says of the registers. -/
def Obligations.OutputPortsShowRegisters : Prop :=
  ∀ s : State, (s.outputs.cmdReady = true ↔ s.ph = .idle) ∧ s.outputs.done = s.done ∧ s.outputs.ok = s.ok ∧
    s.outputs.data = s.data ∧ s.outputs.status = s.status.code ∧
    (s.outputs.err = true ↔ s.status.code ≠ 0) ∧ s.outputs.csN = s.csN ∧
    s.outputs.csOe = s.pincfg.csOe ∧ s.outputs.sck = s.sck ∧ s.outputs.sckOe = s.pincfg.sckOe ∧
    s.outputs.soIe = s.pincfg.soIe

/-- The flag err is STATUS != NONE, a function of STATUS, and 1 while NOT_INITIALIZED (10_state.md R25). -/
def Obligations.ErrIsStatusNotNone : Prop :=
  ∀ s : State, (s.err = true ↔ s.status ≠ .none) ∧ (s.status = .notInitialized → s.err = true) ∧
    (∀ t : State, t.status = s.status → t.err = s.err)

/-- The invariants of 10_state.md R34, which the spec marks as its own inference, and their companions hold after
reset. -/
def Obligations.ResetMeetsInvariants : Prop :=
  (∀ n, 1 ≤ n → State.reset.Inv n) ∧ State.reset.Quiet

/-- Every step keeps the invariants (a) to (g) of 10_state.md R34, which the spec marks as its own inference
("From reset onward the following hold at every tick"). -/
def Obligations.StepKeepsInvariants : Prop :=
  ∀ s t : State, s.Inv Config.nSettle → step s = .next t → t.Inv Config.nSettle

/-- Every tick of the next-state function keeps them, for every N_SETTLE >= 1 (10_state.md R34). -/
def Obligations.TickKeepsInvariants : Prop :=
  ∀ (n : Nat) (rst v : Bool) (c : BitVec 2) (s : State), 1 ≤ n → s.Inv n → (tick n rst v c s).Inv n

/-- Every step keeps the companions: DONE is 0 in an acquisition, BITCNT is 31 in phase SEL, -8192 never stands on
data (10_state.md section 6, 41_acquire.md section 3, 30_encoding.md section 4). -/
def Obligations.StepKeepsCompanions : Prop :=
  ∀ s t : State, s.Quiet → step s = .next t → t.Quiet

/-- DLY fits its DW bits: a count below N_SETTLE is below 2^DW, DW = max(1, ceil(log2 N_SETTLE)) (00_scope.md
section 4). -/
def Obligations.DelayFitsItsWidth : Prop :=
  ∀ (n : Nat) (s : State), s.Inv n → s.dly < 2 ^ Config.delayWidth n

/-! ## The step -/

/-- A step runs the row the host offers or calls: it is exec of that row, and then the host goes on to its next act
unless its command was offered to a busy block. A word laid on the port is such an offer.
That one step is a whole command, and that the offer stands on a busy block, is the model's choice (log entries 1, 6
and 13). -/
def Obligations.StepRunsTheDecodedRow : Prop :=
  (∀ (s t : State) (c : BitVec 2), s.host = .issue c → exec (decodeCmd c) s = .next t →
    step s = .next (if (issuedCode (decodeCmd c)).isSome && s.ph != .idle then t else nextAct t)) ∧
  (∀ (s t : State) (i : Instr), s.host = .call i → i.format = .p → exec i s = .next t →
    step s = .next (if (issuedCode i).isSome && s.ph != .idle then t else nextAct t)) ∧
  (∀ (s : State) (nbits w : Nat), w < 4 →
    (s.withFetchWord nbits w).host = .issue (BitVec.ofNat 2 w) ∧
    { s.withFetchWord nbits w with host := s.host } = s)

/-- The other steps: a raw tick is the next-state function of 43_read_commands.md R134, another source on so is no
tick, and a row that is not host-side cannot be called (30_encoding.md R74). What the host's acts are is the model's
choice (log entries 1, 5 and 12). -/
def Obligations.StepOfOtherActs : Prop :=
  (∀ (s : State) (r v : Bool) (c : BitVec 2), s.host = .clock r v c →
    step s = .next (nextAct (tick Config.nSettle r v c s))) ∧
  (∀ (s : State) (l : SoSource), s.host = .attach l → step s = .next (nextAct { s with so := l })) ∧
  (∀ (s : State) (i : Instr), s.host = .call i → i.format ≠ .p → step s = .refused .notIssuable)

/-- No act a host can do ends a run: every step from it answers a next state (60_exceptions.md sections 1 and 4). What
an act a host can do is, is log entry 12 (DEDUCED). The offer of the reserved code 00 is among them: that the model
runs it as the block does, where 43_read_commands.md R132 and 93 U4 advise a model to refuse such a program, is the
model's choice (log entry 10). -/
def Obligations.StepNeverStops : Prop :=
  ∀ s : State, s.host.wellFormed = true → ∃ t, step s = .next t

/-- Only reset leads to NOT_INITIALIZED and only an accepted INIT leads out of it (40_init.md R77, 60_exceptions.md
R164). -/
def Obligations.LifecycleEdges : Prop :=
  ∀ s t : State, s.Inv Config.nSettle → step s = .next t →
    (s.status ≠ .notInitialized → t.status = .notInitialized → s.rst = true) ∧
    (s.status = .notInitialized → t.status ≠ .notInitialized →
      s.rst = false ∧ s.cmdValid = true ∧ s.cmd = 0b01#2 ∧ s.cmdReady = true)

/-- A command offered to a busy block is not accepted and has no effect: the tick is the same whatever stands on
cmd_valid and cmd (10_state.md section 7), and the row's meaning is that tick of the acquisition in progress (the
model's choice, log entry 13). -/
def Obligations.BusyBlockAcceptsNothing : Prop :=
  (∀ (n : Nat) (v v' : Bool) (c c' : BitVec 2) (s : State), s.ph ≠ .idle →
    tick n false v c s = tick n false v' c' s) ∧
  (∀ (i : Instr) (s : State), (issuedCode i).isSome = true → s.ph ≠ .idle →
    exec i s = .next (tick Config.nSettle false false 0 s))

/-! ## INIT and the reserved code -/

/-- INIT (40_init.md R75) in an idle block: the three directions, select high, clock low, status NONE, ok = 1, data = 0,
at one tick; no other register changes, nothing is sampled. The trace gains the five pin actions, each once, in an order
left open (log entry 21 has the model's); that a pin write is an event also where it does not change the level is the
model's choice (log entry 9). What a device makes of the wires is left open here: DeviceFollowsTheWires says it. -/
def Obligations.InitEffect : Prop :=
  ∀ s : State, s.ph = .idle → ∃ t, exec .init s = .next t ∧
    t = { s with
      pincfg := ⟨true, true, true⟩, csN := true, sck := false, status := .none,
      done := true, ok := true, data := 0, so := t.so, ticks := s.ticks + 1, trace := t.trace } ∧
    (∃ added, t.trace = added ++ s.trace ∧
      added.Perm [.pinMode .sck true, .pinMode .csN true, .pinMode .so false, .select true, .clock false]) ∧
    t.trace.filter PinEvent.isSample = s.trace.filter PinEvent.isSample

/-- INIT is idempotent, and overwrites an error without an acquisition (40_init.md R76). -/
def Obligations.InitIdempotent : Prop :=
  ∀ s : State, s.ph = .idle → ∃ t u, exec .init s = .next t ∧ exec .init t = .next u ∧
    t.pincfg.code = 0b111#3 ∧ t.csN = true ∧ t.sck = false ∧ t.status = .none ∧
    t.draws = s.draws ∧ SameRegisters t u

/-- The reserved code changes no register but DONE, which takes its default 0, and does nothing to the pins
(43_read_commands.md, The reserved command code; the effect taken over the advice to refuse it is the model's
choice, log entry 10). -/
def Obligations.ReservedCodeIgnored : Prop :=
  ∀ s : State, s.ph = .idle →
    exec .reserved00 s = .next { s with done := false, ticks := s.ticks + 1 } ∧
    (∀ n, tick n false true 0b00#2 s = { s with done := false, ticks := s.ticks + 1 })

/-- An idle tick with no command changes only DONE, to 0 (43_read_commands.md, The whole next-state function). -/
def Obligations.IdleTickClearsDone : Prop :=
  ∀ (n : Nat) (c : BitVec 2) (s : State), s.ph = .idle →
    tick n false false c s = { s with done := false, ticks := s.ticks + 1 }

/-! ## The acquisition -/

/-- ACQ in a ready, idle block: 32 samples, sample k in frame bit 31 - k; the trace is select low, then 32 times
sample, clock high, clock low, then select high, a delay after every write but the last; 65 delays. Every other
register and all the host holds stay; that DONE is 0 after an ACQ on its own is the model's choice (41_acquire.md
sections 1 and 2; log entry 22). -/
def Obligations.AcquisitionEffect : Prop :=
  ∀ s : State, s.ph = .idle → s.status ≠ .notInitialized → ∃ a bits, exec .acq s = .next a ∧
    bits.length = 32 ∧ (∀ k, k < 32 → a.shreg.getLsbD (31 - k) = bits.getD k false) ∧
    a.trace = (acqEvents bits).reverse ++ s.trace ∧
    a.ticks = s.ticks + 1 + 65 * Config.nSettle ∧ a.draws = s.draws + 32 ∧ a.moves = s.moves ∧
    Rested s a ∧ SameHost s a ∧ a.done = false ∧ a.status = s.status ∧ a.opsel = s.opsel ∧ a.ok = s.ok ∧
    a.data = s.data ∧ a.clsOut = s.clsOut ∧ a.extOut = s.extOut

/-- What ACQ in a ready, idle block adds to the trace is 66 pin writes, 32 samples and 65 delays, and nothing else
(41_acquire.md section 2; that a delay is one event, at its start, is the model's choice, log entry 9). -/
def Obligations.AcquisitionEventCounts : Prop :=
  ∀ s : State, s.ph = .idle → s.status ≠ .notInitialized → ∃ a added, exec .acq s = .next a ∧
    a.trace = added ++ s.trace ∧ (added.filter PinEvent.isWrite).length = 66 ∧
    (added.filter PinEvent.isSample).length = 32 ∧ (added.filter (· == .delay)).length = 65 ∧
    added.length = 66 + 32 + 65

/-- The frame is exactly the samples, whatever they are, whatever the state was and whichever row asked:
SHREG[31 - k] = b_k (41_acquire.md R90). -/
def Obligations.FrameIsTheSamples : Prop :=
  ∀ (s : State) (bits rest : List Bool), s.ph = .idle → s.status ≠ .notInitialized →
    bits.length = 32 → s.so = .script (bits ++ rest) →
    ∀ i ∈ [Instr.acq, Instr.rdTc, Instr.rdInt], ∃ a, exec i s = .next a ∧ a.so = .script rest ∧
      ∀ k, k < 32 → a.shreg.getLsbD (31 - k) = bits.getD k false

/-- The equivalent left-shifting register: from 0, at each sample {SHREG[30:0], b} (41_acquire.md R99, which the spec
marks as its own inference). -/
def Obligations.ShiftRegisterForm : Prop :=
  ∀ (s : State) (bits rest : List Bool), s.ph = .idle → s.status ≠ .notInitialized →
    bits.length = 32 → s.so = .script (bits ++ rest) →
    ∃ a, exec .acq s = .next a ∧
      a.shreg = bits.foldl BitVec.shiftConcat (0 : Frame)

/-- With DEV(F) on the pins an acquisition ends with SHREG = F, at the operation level and, for every N_SETTLE >= 1,
at the tick level (20_memory.md section 4). -/
def Obligations.ReferenceDeviceFrame : Prop :=
  ∀ (s : State) (f : Frame) (k : Nat), s.Inv Config.nSettle → s.ph = .idle → s.status ≠ .notInitialized →
    s.so = .dev f k →
    (∃ a, exec .acq s = .next a ∧ a.shreg = f) ∧
    (∀ n c, 1 ≤ n → (c = 0b10#2 ∨ c = 0b11#2) → (seqTicks n (65 * n) (tick n false true c s)).shreg = f)

/-- ACQ on an uninitialized block has no meaning and is refused by name (41_acquire.md section 1; log entry 11). -/
def Obligations.AcquisitionNeedsInit : Prop :=
  ∀ s : State, s.status = .notInitialized → exec .acq s = .refused .acqUninitialized

/-- What an acquisition reads is its samples alone: two idle, ready blocks that drive all their pins, have the same
select latch, the same source on so and the same count of draws get the same frame, whatever their other registers held
(41_acquire.md section 2, 20_memory.md section 3). The equal count of draws matters where the source leaves samples free
(any, an ended script): that equal counts then read equal free samples is the model's choice (log entries 3 and 26). -/
def Obligations.FrameIndependentOfRegisters : Prop :=
  ∀ s t : State, s.ph = .idle → t.ph = .idle → s.status ≠ .notInitialized → t.status ≠ .notInitialized →
    s.pincfg = ⟨true, true, true⟩ → t.pincfg = ⟨true, true, true⟩ → s.csN = t.csN →
    s.so = t.so → s.draws = t.draws →
    ∃ a b, exec .acq s = .next a ∧ exec .acq t = .next b ∧ a.shreg = b.shreg

/-! ## The tick level -/

/-- The start tick (41_acquire.md R85). That the delay is an event of the trace, at its start, is the model's choice
(log entry 9). -/
def Obligations.StartTick : Prop :=
  ∀ (n : Nat) (c : BitVec 2) (s : State), s.ph = .idle → s.status ≠ .notInitialized → (c = 0b10#2 ∨ c = 0b11#2) →
    tick n false true c s =
      { s with
        opsel := c.getLsbD 0, shreg := 0, bitcnt := 31, csN := false, dly := n - 1, ph := .sel, done := false,
        so := deviceOnSelect s.selectWire { s with csN := false }.selectWire s.so, ticks := s.ticks + 1,
        trace := .delay :: .select false :: s.trace }

/-- A tick in phase SEL (41_acquire.md R86). That the delay is an event of the trace, at its start, is the model's
choice (log entry 9). -/
def Obligations.SelectPhaseTick : Prop :=
  ∀ (n : Nat) (v : Bool) (c : BitVec 2) (s : State), s.ph = .sel →
    (s.dly ≠ 0 → tick n false v c s = { s with dly := s.dly - 1, done := false, ticks := s.ticks + 1 }) ∧
    (s.dly = 0 → ∃ f, tick n false v c s =
        { s with
          shreg := f, sck := true, dly := n - 1, ph := .hi, done := false,
          so := deviceOnClock s.selectWire s.clockWire { s with sck := true }.clockWire (sourceAfterSample s.so),
          ticks := s.ticks + 1, draws := s.draws + 1, trace := .delay :: .clock true :: .sample s.soLevel :: s.trace } ∧
      f.getLsbD 31 = s.soLevel ∧ ∀ i, i < 31 → f.getLsbD i = s.shreg.getLsbD i)

/-- A tick in phase HI; nothing is sampled (41_acquire.md R87). That the delay is an event of the trace, at its start,
is the model's choice (log entry 9); that DONE is left alone, also where it is 1, is an inference (log entry 19,
DEDUCED). -/
def Obligations.HighPhaseTick : Prop :=
  ∀ (n : Nat) (v : Bool) (c : BitVec 2) (s : State), s.ph = .hi →
    (s.dly ≠ 0 → tick n false v c s = { s with dly := s.dly - 1, ticks := s.ticks + 1 }) ∧
    (s.dly = 0 → tick n false v c s =
      { s with
        sck := false, dly := n - 1, ph := .lo,
        so := deviceOnClock s.selectWire s.clockWire { s with sck := false }.clockWire s.so, ticks := s.ticks + 1,
        trace := .delay :: .clock false :: s.trace })

/-- A tick in phase LO that is not the last (41_acquire.md R88). That the delay is an event of the trace, at its
start, is the model's choice (log entry 9); that DONE is left alone, also where it is 1, is an inference (log entry
19, DEDUCED). -/
def Obligations.LowPhaseTick : Prop :=
  ∀ (n : Nat) (v : Bool) (c : BitVec 2) (s : State), s.ph = .lo →
    (s.dly ≠ 0 → tick n false v c s = { s with dly := s.dly - 1, ticks := s.ticks + 1 }) ∧
    (s.dly = 0 → s.bitcnt ≠ 0 → ∃ f, tick n false v c s =
        { s with
          shreg := f, bitcnt := s.bitcnt - 1, sck := true, dly := n - 1, ph := .hi,
          so := deviceOnClock s.selectWire s.clockWire { s with sck := true }.clockWire (sourceAfterSample s.so),
          ticks := s.ticks + 1, draws := s.draws + 1,
          trace := .delay :: .clock true :: .sample s.soLevel :: s.trace } ∧
      f.getLsbD (s.bitcnt.toNat - 1) = s.soLevel ∧
      ∀ i, i < 32 → i ≠ s.bitcnt.toNat - 1 → f.getLsbD i = s.shreg.getLsbD i)

/-- The completion tick (41_acquire.md R89). -/
def Obligations.CompletionTick : Prop :=
  ∀ (n : Nat) (v : Bool) (c : BitVec 2) (s : State), s.ph = .lo → s.dly = 0 → s.bitcnt = 0 →
    ∃ t, tick n false v c s = t ∧
      t = { s with
        csN := true, ph := .idle, status := classifyFrame s.shreg, done := true, ok := t.ok, data := t.data,
        clsOut := t.clsOut, extOut := t.extOut, so := t.so, ticks := s.ticks + 1,
        trace := .select true :: s.trace } ∧
      (s.opsel = false → t.status = .none → t.ok = true ∧ t.data = tc14 (tcCount s.shreg)) ∧
      (s.opsel = true → t.status ≠ .readError → t.ok = true ∧ t.data = tc14 (intCount s.shreg)) ∧
      (s.opsel = false → t.status ≠ .none → t.ok = false ∧ t.data = 0) ∧
      (s.opsel = true → t.status = .readError → t.ok = false ∧ t.data = 0)

/-- The schedule (41_acquire.md R92): from the start tick t0, sample k and the rising edge fall on tick
t0 + N(2k + 1), the falling edge on t0 + N(2k + 2), select rises on t0 + 65N, and nothing happens to the pins at any
other tick; the block is busy and done is 0 in between, and done is 1 for the one period after tick t0 + 65N.
The premise is the invariant of R34, which gives the idle levels an acquisition starts from (R98). The spec marks
R92 as its own inference. That a delay is one event, at its start, is the model's choice (log entry 9). -/
def Obligations.AcquisitionSchedule : Prop :=
  ∀ (n : Nat) (c : BitVec 2) (s : State), s.Inv n → s.ph = .idle → s.status ≠ .notInitialized →
    (c = 0b10#2 ∨ c = 0b11#2) →
    let at_ := fun j => seqTicks n j (tick n false true c s)
    (at_ 0).csN = false ∧
    (∀ j, j < 65 * n → (at_ j).csN = false ∧ (at_ j).cmdReady = false ∧ (at_ j).done = false) ∧
    (∀ j, j + 1 ≤ 65 * n →
      (∀ k, k ≤ 31 → j + 1 = n * (2 * k + 1) →
        (at_ (j + 1)).sck = true ∧ (at_ j).sck = false ∧
        (at_ (j + 1)).shreg.getLsbD (31 - k) = (at_ j).soLevel ∧
        (at_ (j + 1)).trace = .delay :: .clock true :: .sample (at_ j).soLevel :: (at_ j).trace) ∧
      (∀ k, k ≤ 31 → j + 1 = n * (2 * k + 2) →
        (at_ (j + 1)).sck = false ∧ (at_ j).sck = true ∧
        (at_ (j + 1)).trace = .delay :: .clock false :: (at_ j).trace) ∧
      (j + 1 = 65 * n → (at_ (j + 1)).trace = .select true :: (at_ j).trace) ∧
      ((∀ k, k ≤ 31 → j + 1 ≠ n * (2 * k + 1) ∧ j + 1 ≠ n * (2 * k + 2)) → j + 1 ≠ 65 * n →
        (at_ (j + 1)).trace = (at_ j).trace)) ∧
    (at_ (65 * n)).csN = true ∧ (at_ (65 * n)).cmdReady = true ∧ (at_ (65 * n)).done = true ∧
    (∀ c', (tick n false false c' (at_ (65 * n))).done = false)

/-- The two levels agree (41_acquire.md R94, which the spec marks as its own inference): from an idle, ready block,
the accepting tick and 65 N_SETTLE more ticks are the command at the operation level, whole: registers, trace of pin
events, samples, number of ticks. That a delay is one event of the trace, at its start, is the model's choice (log
entry 9). -/
def Obligations.LevelsAgree : Prop :=
  ∀ (n : Nat) (s : State), 1 ≤ n → s.ph = .idle → s.status ≠ .notInitialized →
    seqTicks n (65 * n) (tick n false true 0b10#2 s) = readTc n s ∧
    seqTicks n (65 * n) (tick n false true 0b11#2 s) = readInt n s

/-- The commands that complete at the accepting tick agree at both levels too: INIT, and a read refused by the guard
(40_init.md section INIT, 43_read_commands.md section Both read commands). -/
def Obligations.OneTickCommandsAgree : Prop :=
  (∀ (n : Nat) (s : State), s.ph = .idle → exec .init s = .next (tick n false true 0b01#2 s)) ∧
  (∀ (n : Nat) (s : State), s.ph = .idle → s.status = .notInitialized →
    exec .rdTc s = .next (tick n false true 0b10#2 s) ∧ exec .rdInt s = .next (tick n false true 0b11#2 s))

/-- Every acquisition that has started ends, after a fixed bound of ticks, whatever so does: the block cannot hang
(41_acquire.md section 2). -/
def Obligations.AcquisitionAlwaysEnds : Prop :=
  ∀ (n : Nat) (s : State), 1 ≤ n → s.Inv n → s.Quiet →
    ∃ k, k ≤ 65 * n ∧ (seqTicks n k s).ph = .idle

/-! ## CLASSIFY, EXT_TC, EXT_INT -/

/-- CLASSIFY writes its result and nothing else, and the result is the first of the seven arms that matches
(42_interpret.md R101 to R107). -/
def Obligations.ClassifyArms : Prop :=
  ∀ s : State, ∃ r, exec .classify s = .next { s with clsOut := r } ∧
    let f := s.shreg
    let rsv : Prop := f.getLsbD 17 = true ∨ f.getLsbD 3 = true
    let fault : Prop := f.getLsbD 16 = true
    let any : Prop := f.getLsbD 2 = true ∨ f.getLsbD 1 = true ∨ f.getLsbD 0 = true
    (rsv → r = .readError) ∧
    (¬rsv → any → ¬fault → r = .readError) ∧
    (¬rsv → fault → ¬any → r = .readError) ∧
    (¬rsv → fault → f.getLsbD 0 = true → r = .openCircuit) ∧
    (¬rsv → fault → f.getLsbD 0 = false → f.getLsbD 1 = true → r = .gndShort) ∧
    (¬rsv → fault → f.getLsbD 0 = false → f.getLsbD 1 = false → f.getLsbD 2 = true → r = .vccShort) ∧
    (¬rsv → ¬fault → ¬any → r = .none)

/-- CLASSIFY never returns NOT_INITIALIZED and ignores the other 26 bits of the frame (42_interpret.md R110,
which the spec marks as its own inference). -/
def Obligations.ClassifyReadsSixBits : Prop :=
  (∀ f : Frame, classifyFrame f ≠ .notInitialized) ∧
  (∀ f g : Frame, (∀ i ∈ [17, 16, 3, 2, 1, 0], f.getLsbD i = g.getLsbD i) → classifyFrame f = classifyFrame g)

/-- EXT_TC writes its result and nothing else: the magnitude f[30:18], negated when f[31] is set (42_interpret.md
section 2). -/
def Obligations.ExtTcEffect : Prop :=
  ∀ s : State, exec .extTc s = .next
    { s with
      extOut := if s.shreg.getLsbD 31 then -(s.shreg.toNat / 2 ^ 18 % 2 ^ 13 : Nat)
        else (s.shreg.toNat / 2 ^ 18 % 2 ^ 13 : Nat) }

/-- EXT_INT writes its result and nothing else: the magnitude f[14:4], negated when f[15] is set (42_interpret.md
section 3). -/
def Obligations.ExtIntEffect : Prop :=
  ∀ s : State, exec .extInt s = .next
    { s with
      extOut := if s.shreg.getLsbD 15 then -(s.shreg.toNat / 2 ^ 4 % 2 ^ 11 : Nat)
        else (s.shreg.toNat / 2 ^ 4 % 2 ^ 11 : Nat) }

/-- Range and images of EXT_TC: -8191 to 8191, each nonzero value from exactly one 14-bit field, 0 from two, and the
14-bit pattern on data reads back as the count (42_interpret.md section 2). -/
def Obligations.ExtTcRange : Prop :=
  (∀ f : Frame, -8191 ≤ tcCount f ∧ tcCount f ≤ 8191 ∧ (tc14 (tcCount f)).toInt = tcCount f) ∧
  (∀ z : Int, -8191 ≤ z → z ≤ 8191 → z ≠ 0 →
    ∃ v : BitVec 14, ∀ f : Frame, tcCount f = z ↔ f.extractLsb' 18 14 = v) ∧
  (∀ f : Frame, tcCount f = 0 ↔ (f.extractLsb' 18 14 = 0x0000#14 ∨ f.extractLsb' 18 14 = 0x2000#14))

/-- Range and images of EXT_INT: -2047 to 2047, each nonzero value from exactly one 12-bit field, 0 from 0x000 and
0x800, and the 14-bit pattern on data reads back as the count (42_interpret.md section 3). -/
def Obligations.ExtIntRange : Prop :=
  (∀ f : Frame, -2047 ≤ intCount f ∧ intCount f ≤ 2047 ∧ (tc14 (intCount f)).toInt = intCount f) ∧
  (∀ z : Int, -2047 ≤ z → z ≤ 2047 → z ≠ 0 →
    ∃ v : BitVec 12, ∀ f : Frame, intCount f = z ↔ f.extractLsb' 4 12 = v) ∧
  (∀ f : Frame, intCount f = 0 ↔ (f.extractLsb' 4 12 = 0x000#12 ∨ f.extractLsb' 4 12 = 0x800#12))

/-! ## The read commands -/

/-- The guard: a read of an uninitialized block completes at once with ok = 0 and data = 0, touches no pin, samples
nothing, and leaves STATUS and the phase (43_read_commands.md R121, R125). -/
def Obligations.ReadGuard : Prop :=
  ∀ s : State, s.ph = .idle → s.status = .notInitialized →
    exec .rdTc s = .next { s with done := true, ok := false, data := 0, ticks := s.ticks + 1 } ∧
    exec .rdInt s = .next { s with done := true, ok := false, data := 0, ticks := s.ticks + 1 }

/-- RD_TC in a ready, idle block: one acquisition, STATUS takes the classification of its frame, and the count of
the thermocouple field is delivered if and only if that is NONE (43_read_commands.md R122, R123); what it leaves
unchanged. -/
def Obligations.RdTcEffect : Prop :=
  ∀ s : State, s.ph = .idle → s.status ≠ .notInitialized → ∃ a t, exec .acq s = .next a ∧ exec .rdTc s = .next t ∧
    t.shreg = a.shreg ∧ t.status = classifyFrame a.shreg ∧ t.done = true ∧
    (t.status = .none → t.ok = true ∧ t.data = tc14 (tcCount a.shreg)) ∧
    (t.status ≠ .none → t.ok = false ∧ t.data = 0) ∧
    t.opsel = false ∧ Rested s t ∧ SameHost s t ∧ SameLink a t ∧ t.draws = a.draws

/-- RD_INT in a ready, idle block: one acquisition, STATUS takes the classification of its frame, and the count of
the internal field is delivered unless that is READ_ERROR (43_read_commands.md R126, R127); what it leaves
unchanged. -/
def Obligations.RdIntEffect : Prop :=
  ∀ s : State, s.ph = .idle → s.status ≠ .notInitialized → ∃ a t, exec .acq s = .next a ∧ exec .rdInt s = .next t ∧
    t.shreg = a.shreg ∧ t.status = classifyFrame a.shreg ∧ t.done = true ∧
    (t.status ≠ .readError → t.ok = true ∧ t.data = tc14 (intCount a.shreg)) ∧
    (t.status = .readError → t.ok = false ∧ t.data = 0) ∧
    (t.status ∈ [.openCircuit, .gndShort, .vccShort] → t.ok = true ∧ t.err = true) ∧
    t.opsel = true ∧ Rested s t ∧ SameHost s t ∧ SameLink a t ∧ t.draws = a.draws

/-- Both reads, in numbers: from a ready, idle block whose next samples are the frame F, most significant bit first,
STATUS is the class of F and the count on data is F's field, for all 2^32 frames (43_read_commands.md sections RD_TC
and RD_INT). -/
def Obligations.ReadsDeliverTheFrame : Prop :=
  ∀ (s : State) (f : Frame) (rest : List Bool), s.ph = .idle → s.status ≠ .notInitialized →
    s.so = .script ((List.range 32).map (fun k => f.getLsbD (31 - k)) ++ rest) →
    (∃ t, exec .rdTc s = .next t ∧ t.status = classifyFrame f ∧ t.ok = (classifyFrame f == .none) ∧
      t.data.toInt = if classifyFrame f = .none then tcCount f else 0) ∧
    (∃ t, exec .rdInt s = .next t ∧ t.status = classifyFrame f ∧ t.ok = (classifyFrame f != .readError) ∧
      t.data.toInt = if classifyFrame f = .readError then 0 else intCount f)

/-- What a read answers depends on its samples alone: two idle, ready blocks that drive all their pins, have the same
select latch, the same source on so and the same count of draws get the same status, ok and data (20_memory.md section
3, 43_read_commands.md section Both read commands). The equal count of draws matters where the source leaves samples
free (any, an ended script): that equal counts then read equal free samples is the model's choice (log entries 3 and
26). -/
def Obligations.ReadsForgetThePast : Prop :=
  ∀ s t : State, s.ph = .idle → t.ph = .idle → s.status ≠ .notInitialized → t.status ≠ .notInitialized →
    s.pincfg = ⟨true, true, true⟩ → t.pincfg = ⟨true, true, true⟩ → s.csN = t.csN →
    s.so = t.so → s.draws = t.draws →
    ∀ i ∈ [Instr.rdTc, Instr.rdInt], ∃ a b, exec i s = .next a ∧ exec i t = .next b ∧
      a.status = b.status ∧ a.ok = b.ok ∧ a.data = b.data

/-- A data line stuck low is not detected and a data line stuck high is (70_reset_and_hazards.md R186,
which the spec marks as its own inference). -/
def Obligations.StuckDataLine : Prop :=
  ∀ (s : State) (b : Bool) (rest : List Bool), s.ph = .idle → s.status ≠ .notInitialized →
    s.so = .script (List.replicate 32 b ++ rest) →
    ∀ i ∈ [Instr.rdTc, Instr.rdInt], ∃ t, exec i s = .next t ∧ t.data = 0 ∧
      (b = false → t.shreg = 0x00000000#32 ∧ t.status = .none ∧ t.ok = true) ∧
      (b = true → t.shreg = 0xFFFFFFFF#32 ∧ t.status = .readError ∧ t.ok = false)

/-- Durations in ticks: INIT and a refused read take the accepting tick alone; a read that acquires completes
65 N_SETTLE ticks after it (70_reset_and_hazards.md section 4). -/
def Obligations.CommandDurations : Prop :=
  (∀ s : State, s.ph = .idle → ∃ t, exec .init s = .next t ∧ t.ticks = s.ticks + 1) ∧
  (∀ s : State, s.ph = .idle → ∀ i ∈ [Instr.rdTc, Instr.rdInt], ∃ t, exec i s = .next t ∧
    (s.status = .notInitialized → t.ticks = s.ticks + 1) ∧
    (s.status ≠ .notInitialized → t.ticks = s.ticks + 1 + 65 * Config.nSettle))

/-! ## The host-side view -/

/-- CELSIUS_TC and CELSIUS_INT: NaN if ok = 0, else data as a two's complement count times 0.25 or 0.0625; the block
does not change (44_host_view.md section 2). -/
def Obligations.CelsiusEffect : Prop :=
  ∀ s : State,
    (∃ t, exec .celsiusTc s = .next t ∧ t.temp = (if s.ok then .num ((s.data.toInt : Rat) * (1 / 4)) else .nan) ∧
      SameRegisters s t ∧ SameLink s t ∧ t.host = s.host ∧ t.script = s.script ∧ t.errSeen = s.errSeen ∧
      t.label = s.label ∧ t.clsOut = s.clsOut ∧ t.extOut = s.extOut) ∧
    (∃ t, exec .celsiusInt s = .next t ∧ t.temp = (if s.ok then .num ((s.data.toInt : Rat) * (1 / 16)) else .nan) ∧
      SameRegisters s t ∧ SameLink s t ∧ t.host = s.host ∧ t.script = s.script ∧ t.errSeen = s.errSeen ∧
      t.label = s.label ∧ t.clsOut = s.clsOut ∧ t.extOut = s.extOut)

/-- The floating-point reading of a Celsius value is the same number as the exact one, NaN for NaN (44_host_view.md
section 2; taking the product as exact is R143's general knowledge, log entry 15). -/
def Obligations.FloatCelsiusIsExact : Prop :=
  ∀ (s : State), ∀ i ∈ [Instr.celsiusTc, Instr.celsiusInt], ∃ t, exec i s = .next t ∧
    (t.temp = .nan ↔ t.ftemp = .nan) ∧ ∀ q, t.temp = .num q ↔ ∃ neg, t.ftemp = .num q neg

/-- C_TO_F: NaN stays NaN, in both readings; a number c becomes c * 9/5 + 32 in the exact reading, and the open
rounding of it in the floating-point reading (log entry 15); the block does not change (44_host_view.md section 3). -/
def Obligations.FahrenheitEffect : Prop :=
  ∀ s : State, ∃ t, exec .cToF s = .next t ∧ (s.temp = .nan → t.temp = .nan) ∧
    (∀ q, s.temp = .num q → t.temp = .num (q * 9 / 5 + 32)) ∧ (s.ftemp = .nan → t.ftemp = .nan) ∧
    (∀ q neg, s.ftemp = .num q neg →
      ∃ neg', t.ftemp = .num (Config.fahrenheitRound Config.flt q) neg') ∧
    SameRegisters s t ∧ SameLink s t ∧ t.host = s.host ∧ t.script = s.script ∧ t.errSeen = s.errSeen ∧
    t.label = s.label ∧ t.clsOut = s.clsOut ∧ t.extOut = s.extOut

/-- The read pseudo-instructions are their expansions, in an idle block: RD_TC_C = RD_TC; CELSIUS_TC, RD_INT_C =
RD_INT; CELSIUS_INT, and the Fahrenheit ones go on with C_TO_F (30_encoding.md section 6). -/
def Obligations.PseudoReadsExpand : Prop :=
  ∀ s : State, s.ph = .idle →
    (∃ t u v, exec .rdTc s = .next t ∧ exec .celsiusTc t = .next u ∧ exec .cToF u = .next v ∧
      exec .rdTcC s = .next u ∧ exec .rdTcF s = .next v) ∧
    (∃ t u v, exec .rdInt s = .next t ∧ exec .celsiusInt t = .next u ∧ exec .cToF u = .next v ∧
      exec .rdIntC s = .next u ∧ exec .rdIntF s = .next v)

/-- In degrees: from a ready, idle block whose next samples are the frame F, RD_TC_F gives 9n/20 + 32 for the
thermocouple count n when F classifies NONE and NaN otherwise, RD_INT_F gives 9n/80 + 32 for the internal count n
unless F classifies READ_ERROR (44_host_view.md section 3). -/
def Obligations.FahrenheitOfTheFrame : Prop :=
  ∀ (s : State) (f : Frame) (rest : List Bool), s.ph = .idle → s.status ≠ .notInitialized →
    s.so = .script ((List.range 32).map (fun k => f.getLsbD (31 - k)) ++ rest) →
    (∃ t, exec .rdTcF s = .next t ∧
      t.temp = if classifyFrame f = .none then .num (9 * (tcCount f : Rat) / 20 + 32) else .nan) ∧
    (∃ t, exec .rdIntF s = .next t ∧
      t.temp = if classifyFrame f = .readError then .nan else .num (9 * (intCount f : Rat) / 80 + 32))

/-- GET_ERR and GET_ERRSTR read port status: the code, and the label that corresponds to it one to one; they issue no
command and change nothing of the block (44_host_view.md section 4). -/
def Obligations.ErrorAccessors : Prop :=
  (∀ s : State, exec .getErr s = .next { s with errSeen := s.status }) ∧
  (∀ s : State, ∃ l, exec .getErrstr s = .next { s with label := l } ∧ l.text =
    match s.status with
    | .none => "ERROR_NONE"
    | .openCircuit => "ERROR_OPEN_CIRCUIT"
    | .gndShort => "ERROR_GND_SHORT"
    | .vccShort => "ERROR_VCC_SHORT"
    | .readError => "ERROR_READ"
    | .notInitialized => "ERROR_NOT_INITIALIZED") ∧
  (∀ a b : Label, a.text = b.text → a = b)

/-- "For all constructed-but-not-initialized instances: every temperature getter returns not-a-number, and
getErrorCode returns NOT_INITIALIZED" (70_reset_and_hazards.md section 1). -/
def Obligations.UninitializedGetters : Prop :=
  ∀ s : State, s.ph = .idle → s.status = .notInitialized →
    (∀ i ∈ [Instr.rdTcC, Instr.rdIntC, Instr.rdTcF, Instr.rdIntF], ∃ t, exec i s = .next t ∧
      t.temp = .nan ∧ t.ftemp = .nan ∧ t.status = .notInitialized ∧ t.trace = s.trace) ∧
    (∃ t, exec .getErr s = .next t ∧ t.errSeen = .notInitialized)

/-! ## Several blocks -/

/-- Blocks share no state: a step of block k leaves every other block as it was, and in an admitted system block k
makes the step it makes alone (60_exceptions.md section 6). How the model holds them is log entry 17; that they have
one N_SETTLE and the same free values at equal counters is log entry 26. -/
def Obligations.BlocksAreIndependent : Prop :=
  (∀ (k : Nat) (bs cs : List Block), stepBlock k bs = .next cs →
    cs.length = bs.length ∧ cs.map Block.pins = bs.map Block.pins ∧ (∀ j, j ≠ k → cs[j]? = bs[j]?) ∧
    (∀ b, bs[k]? = some b → ∃ t, step b.state = .next t ∧ cs[k]? = some { b with state := t })) ∧
  (∀ (k : Nat) (bs : List Block) (b : Block) (t : State), systemAdmitted bs = true → bs[k]? = some b →
    step b.state = .next t → stepBlock k bs = .next (bs.set k { b with state := t }))

/-- A configuration that wires two blocks to a common pin is refused: it is not admitted, and no block of it makes a
step (20_memory.md section 6, 60_exceptions.md section 6; log entry 17). -/
def Obligations.SharedPinsRefused : Prop :=
  ∀ (xs ys zs : List Block) (a b : Block),
    (∃ p, p ∈ [a.pins.clockPin, a.pins.selectPin, a.pins.dataPin] ∧
      p ∈ [b.pins.clockPin, b.pins.selectPin, b.pins.dataPin]) →
    PinBinding.admitted ((xs ++ a :: ys ++ b :: zs).map Block.pins) = false ∧
    ∀ k, stepBlock k (xs ++ a :: ys ++ b :: zs) = .refused .sharedPins

/-! ## The reference device -/

/-- The reference device (20_memory.md R46): at a tick, whatever happens at it, and between two acts of the host, its
counter is zeroed when the select wire falls and counts when the clock wire falls while select is low, and it presents
F[31 - n]. Where both wires move at once the rule leaves open what it counts, and so does this (log entry 4). -/
def Obligations.DeviceFollowsTheWires : Prop :=
  ∀ (n : Nat) (rst v : Bool) (c : BitVec 2) (s t : State) (f : Frame) (k : Nat), s.so = .dev f k →
    t = tick n rst v c s ∨ t = nextAct s →
    let selectFell : Prop := s.selectWire = true ∧ t.selectWire = false
    let clockFell : Prop := s.clockWire = true ∧ t.clockWire = false
    (s.selectWire = false → k ≤ 31 → s.soLevel = f.getLsbD (31 - k)) ∧
    ∃ m, t.so = .dev f m ∧
      (¬selectFell → ¬clockFell → m = k) ∧
      (s.selectWire = true → t.selectWire = true → m = k) ∧
      (selectFell → ¬clockFell → m = 0) ∧
      (s.selectWire = false → t.selectWire = false → clockFell → m = k + 1) ∧
      (s.selectWire ≠ t.selectWire → clockFell → if t.selectWire then m = k ∨ m = k + 1 else m = 0 ∨ m = 1)
end

