-- ==== Sys2Proof/Laws/State.lean ====
section
/-! SUPPORT. What each named operation does to each field of the state: one lemma per field and operation, all true
by definition, so that no proof unfolds a record update. -/

namespace Sys2Proof.Machine

variable (s : State)

-- enableSck
@[simp] theorem enableSck_status : (enableSck s).status = s.status := rfl
@[simp] theorem enableSck_pincfg : (enableSck s).pincfg = { s.pincfg with sckOe := true } := rfl
@[simp] theorem enableSck_csN : (enableSck s).csN = s.csN := rfl
@[simp] theorem enableSck_sck : (enableSck s).sck = s.sck := rfl
@[simp] theorem enableSck_ph : (enableSck s).ph = s.ph := rfl
@[simp] theorem enableSck_bitcnt : (enableSck s).bitcnt = s.bitcnt := rfl
@[simp] theorem enableSck_dly : (enableSck s).dly = s.dly := rfl
@[simp] theorem enableSck_shreg : (enableSck s).shreg = s.shreg := rfl
@[simp] theorem enableSck_opsel : (enableSck s).opsel = s.opsel := rfl
@[simp] theorem enableSck_done : (enableSck s).done = s.done := rfl
@[simp] theorem enableSck_ok : (enableSck s).ok = s.ok := rfl
@[simp] theorem enableSck_data : (enableSck s).data = s.data := rfl
@[simp] theorem enableSck_host : (enableSck s).host = s.host := rfl
@[simp] theorem enableSck_script : (enableSck s).script = s.script := rfl
@[simp] theorem enableSck_so : (enableSck s).so = s.so := rfl
@[simp] theorem enableSck_clsOut : (enableSck s).clsOut = s.clsOut := rfl
@[simp] theorem enableSck_extOut : (enableSck s).extOut = s.extOut := rfl
@[simp] theorem enableSck_temp : (enableSck s).temp = s.temp := rfl
@[simp] theorem enableSck_ftemp : (enableSck s).ftemp = s.ftemp := rfl
@[simp] theorem enableSck_errSeen : (enableSck s).errSeen = s.errSeen := rfl
@[simp] theorem enableSck_label : (enableSck s).label = s.label := rfl
@[simp] theorem enableSck_trace : (enableSck s).trace = .pinMode .sck true :: s.trace := rfl
@[simp] theorem enableSck_ticks : (enableSck s).ticks = s.ticks := rfl
@[simp] theorem enableSck_draws : (enableSck s).draws = s.draws := rfl
@[simp] theorem enableSck_moves : (enableSck s).moves = s.moves := rfl

-- enableCsN
@[simp] theorem enableCsN_status : (enableCsN s).status = s.status := rfl
@[simp] theorem enableCsN_pincfg : (enableCsN s).pincfg = { s.pincfg with csOe := true } := rfl
@[simp] theorem enableCsN_csN : (enableCsN s).csN = s.csN := rfl
@[simp] theorem enableCsN_sck : (enableCsN s).sck = s.sck := rfl
@[simp] theorem enableCsN_ph : (enableCsN s).ph = s.ph := rfl
@[simp] theorem enableCsN_bitcnt : (enableCsN s).bitcnt = s.bitcnt := rfl
@[simp] theorem enableCsN_dly : (enableCsN s).dly = s.dly := rfl
@[simp] theorem enableCsN_shreg : (enableCsN s).shreg = s.shreg := rfl
@[simp] theorem enableCsN_opsel : (enableCsN s).opsel = s.opsel := rfl
@[simp] theorem enableCsN_done : (enableCsN s).done = s.done := rfl
@[simp] theorem enableCsN_ok : (enableCsN s).ok = s.ok := rfl
@[simp] theorem enableCsN_data : (enableCsN s).data = s.data := rfl
@[simp] theorem enableCsN_host : (enableCsN s).host = s.host := rfl
@[simp] theorem enableCsN_script : (enableCsN s).script = s.script := rfl
@[simp] theorem enableCsN_so : (enableCsN s).so = s.so := rfl
@[simp] theorem enableCsN_clsOut : (enableCsN s).clsOut = s.clsOut := rfl
@[simp] theorem enableCsN_extOut : (enableCsN s).extOut = s.extOut := rfl
@[simp] theorem enableCsN_temp : (enableCsN s).temp = s.temp := rfl
@[simp] theorem enableCsN_ftemp : (enableCsN s).ftemp = s.ftemp := rfl
@[simp] theorem enableCsN_errSeen : (enableCsN s).errSeen = s.errSeen := rfl
@[simp] theorem enableCsN_label : (enableCsN s).label = s.label := rfl
@[simp] theorem enableCsN_trace : (enableCsN s).trace = .pinMode .csN true :: s.trace := rfl
@[simp] theorem enableCsN_ticks : (enableCsN s).ticks = s.ticks := rfl
@[simp] theorem enableCsN_draws : (enableCsN s).draws = s.draws := rfl
@[simp] theorem enableCsN_moves : (enableCsN s).moves = s.moves := rfl

-- enableSo
@[simp] theorem enableSo_status : (enableSo s).status = s.status := rfl
@[simp] theorem enableSo_pincfg : (enableSo s).pincfg = { s.pincfg with soIe := true } := rfl
@[simp] theorem enableSo_csN : (enableSo s).csN = s.csN := rfl
@[simp] theorem enableSo_sck : (enableSo s).sck = s.sck := rfl
@[simp] theorem enableSo_ph : (enableSo s).ph = s.ph := rfl
@[simp] theorem enableSo_bitcnt : (enableSo s).bitcnt = s.bitcnt := rfl
@[simp] theorem enableSo_dly : (enableSo s).dly = s.dly := rfl
@[simp] theorem enableSo_shreg : (enableSo s).shreg = s.shreg := rfl
@[simp] theorem enableSo_opsel : (enableSo s).opsel = s.opsel := rfl
@[simp] theorem enableSo_done : (enableSo s).done = s.done := rfl
@[simp] theorem enableSo_ok : (enableSo s).ok = s.ok := rfl
@[simp] theorem enableSo_data : (enableSo s).data = s.data := rfl
@[simp] theorem enableSo_host : (enableSo s).host = s.host := rfl
@[simp] theorem enableSo_script : (enableSo s).script = s.script := rfl
@[simp] theorem enableSo_so : (enableSo s).so = s.so := rfl
@[simp] theorem enableSo_clsOut : (enableSo s).clsOut = s.clsOut := rfl
@[simp] theorem enableSo_extOut : (enableSo s).extOut = s.extOut := rfl
@[simp] theorem enableSo_temp : (enableSo s).temp = s.temp := rfl
@[simp] theorem enableSo_ftemp : (enableSo s).ftemp = s.ftemp := rfl
@[simp] theorem enableSo_errSeen : (enableSo s).errSeen = s.errSeen := rfl
@[simp] theorem enableSo_label : (enableSo s).label = s.label := rfl
@[simp] theorem enableSo_trace : (enableSo s).trace = .pinMode .so false :: s.trace := rfl
@[simp] theorem enableSo_ticks : (enableSo s).ticks = s.ticks := rfl
@[simp] theorem enableSo_draws : (enableSo s).draws = s.draws := rfl
@[simp] theorem enableSo_moves : (enableSo s).moves = s.moves := rfl

-- latchCsN
@[simp] theorem latchCsN_status (b : Bool) : (latchCsN b s).status = s.status := rfl
@[simp] theorem latchCsN_pincfg (b : Bool) : (latchCsN b s).pincfg = s.pincfg := rfl
@[simp] theorem latchCsN_csN (b : Bool) : (latchCsN b s).csN = b := rfl
@[simp] theorem latchCsN_sck (b : Bool) : (latchCsN b s).sck = s.sck := rfl
@[simp] theorem latchCsN_ph (b : Bool) : (latchCsN b s).ph = s.ph := rfl
@[simp] theorem latchCsN_bitcnt (b : Bool) : (latchCsN b s).bitcnt = s.bitcnt := rfl
@[simp] theorem latchCsN_dly (b : Bool) : (latchCsN b s).dly = s.dly := rfl
@[simp] theorem latchCsN_shreg (b : Bool) : (latchCsN b s).shreg = s.shreg := rfl
@[simp] theorem latchCsN_opsel (b : Bool) : (latchCsN b s).opsel = s.opsel := rfl
@[simp] theorem latchCsN_done (b : Bool) : (latchCsN b s).done = s.done := rfl
@[simp] theorem latchCsN_ok (b : Bool) : (latchCsN b s).ok = s.ok := rfl
@[simp] theorem latchCsN_data (b : Bool) : (latchCsN b s).data = s.data := rfl
@[simp] theorem latchCsN_host (b : Bool) : (latchCsN b s).host = s.host := rfl
@[simp] theorem latchCsN_script (b : Bool) : (latchCsN b s).script = s.script := rfl
@[simp] theorem latchCsN_so (b : Bool) : (latchCsN b s).so = s.so := rfl
@[simp] theorem latchCsN_clsOut (b : Bool) : (latchCsN b s).clsOut = s.clsOut := rfl
@[simp] theorem latchCsN_extOut (b : Bool) : (latchCsN b s).extOut = s.extOut := rfl
@[simp] theorem latchCsN_temp (b : Bool) : (latchCsN b s).temp = s.temp := rfl
@[simp] theorem latchCsN_ftemp (b : Bool) : (latchCsN b s).ftemp = s.ftemp := rfl
@[simp] theorem latchCsN_errSeen (b : Bool) : (latchCsN b s).errSeen = s.errSeen := rfl
@[simp] theorem latchCsN_label (b : Bool) : (latchCsN b s).label = s.label := rfl
@[simp] theorem latchCsN_trace (b : Bool) : (latchCsN b s).trace = .select b :: s.trace := rfl
@[simp] theorem latchCsN_ticks (b : Bool) : (latchCsN b s).ticks = s.ticks := rfl
@[simp] theorem latchCsN_draws (b : Bool) : (latchCsN b s).draws = s.draws := rfl
@[simp] theorem latchCsN_moves (b : Bool) : (latchCsN b s).moves = s.moves := rfl

-- latchSck
@[simp] theorem latchSck_status (b : Bool) : (latchSck b s).status = s.status := rfl
@[simp] theorem latchSck_pincfg (b : Bool) : (latchSck b s).pincfg = s.pincfg := rfl
@[simp] theorem latchSck_csN (b : Bool) : (latchSck b s).csN = s.csN := rfl
@[simp] theorem latchSck_sck (b : Bool) : (latchSck b s).sck = b := rfl
@[simp] theorem latchSck_ph (b : Bool) : (latchSck b s).ph = s.ph := rfl
@[simp] theorem latchSck_bitcnt (b : Bool) : (latchSck b s).bitcnt = s.bitcnt := rfl
@[simp] theorem latchSck_dly (b : Bool) : (latchSck b s).dly = s.dly := rfl
@[simp] theorem latchSck_shreg (b : Bool) : (latchSck b s).shreg = s.shreg := rfl
@[simp] theorem latchSck_opsel (b : Bool) : (latchSck b s).opsel = s.opsel := rfl
@[simp] theorem latchSck_done (b : Bool) : (latchSck b s).done = s.done := rfl
@[simp] theorem latchSck_ok (b : Bool) : (latchSck b s).ok = s.ok := rfl
@[simp] theorem latchSck_data (b : Bool) : (latchSck b s).data = s.data := rfl
@[simp] theorem latchSck_host (b : Bool) : (latchSck b s).host = s.host := rfl
@[simp] theorem latchSck_script (b : Bool) : (latchSck b s).script = s.script := rfl
@[simp] theorem latchSck_so (b : Bool) : (latchSck b s).so = s.so := rfl
@[simp] theorem latchSck_clsOut (b : Bool) : (latchSck b s).clsOut = s.clsOut := rfl
@[simp] theorem latchSck_extOut (b : Bool) : (latchSck b s).extOut = s.extOut := rfl
@[simp] theorem latchSck_temp (b : Bool) : (latchSck b s).temp = s.temp := rfl
@[simp] theorem latchSck_ftemp (b : Bool) : (latchSck b s).ftemp = s.ftemp := rfl
@[simp] theorem latchSck_errSeen (b : Bool) : (latchSck b s).errSeen = s.errSeen := rfl
@[simp] theorem latchSck_label (b : Bool) : (latchSck b s).label = s.label := rfl
@[simp] theorem latchSck_trace (b : Bool) : (latchSck b s).trace = .clock b :: s.trace := rfl
@[simp] theorem latchSck_ticks (b : Bool) : (latchSck b s).ticks = s.ticks := rfl
@[simp] theorem latchSck_draws (b : Bool) : (latchSck b s).draws = s.draws := rfl
@[simp] theorem latchSck_moves (b : Bool) : (latchSck b s).moves = s.moves := rfl

-- writeCsN
@[simp] theorem writeCsN_status (b : Bool) : (writeCsN b s).status = s.status := rfl
@[simp] theorem writeCsN_pincfg (b : Bool) : (writeCsN b s).pincfg = s.pincfg := rfl
@[simp] theorem writeCsN_csN (b : Bool) : (writeCsN b s).csN = b := rfl
@[simp] theorem writeCsN_sck (b : Bool) : (writeCsN b s).sck = s.sck := rfl
@[simp] theorem writeCsN_ph (b : Bool) : (writeCsN b s).ph = s.ph := rfl
@[simp] theorem writeCsN_bitcnt (b : Bool) : (writeCsN b s).bitcnt = s.bitcnt := rfl
@[simp] theorem writeCsN_dly (b : Bool) : (writeCsN b s).dly = s.dly := rfl
@[simp] theorem writeCsN_shreg (b : Bool) : (writeCsN b s).shreg = s.shreg := rfl
@[simp] theorem writeCsN_opsel (b : Bool) : (writeCsN b s).opsel = s.opsel := rfl
@[simp] theorem writeCsN_done (b : Bool) : (writeCsN b s).done = s.done := rfl
@[simp] theorem writeCsN_ok (b : Bool) : (writeCsN b s).ok = s.ok := rfl
@[simp] theorem writeCsN_data (b : Bool) : (writeCsN b s).data = s.data := rfl
@[simp] theorem writeCsN_host (b : Bool) : (writeCsN b s).host = s.host := rfl
@[simp] theorem writeCsN_script (b : Bool) : (writeCsN b s).script = s.script := rfl
@[simp] theorem writeCsN_so (b : Bool) : (writeCsN b s).so = deviceOnSelect s.selectWire (if s.pincfg.csOe then b else Config.floatSelect s.moves) s.so := rfl
@[simp] theorem writeCsN_clsOut (b : Bool) : (writeCsN b s).clsOut = s.clsOut := rfl
@[simp] theorem writeCsN_extOut (b : Bool) : (writeCsN b s).extOut = s.extOut := rfl
@[simp] theorem writeCsN_temp (b : Bool) : (writeCsN b s).temp = s.temp := rfl
@[simp] theorem writeCsN_ftemp (b : Bool) : (writeCsN b s).ftemp = s.ftemp := rfl
@[simp] theorem writeCsN_errSeen (b : Bool) : (writeCsN b s).errSeen = s.errSeen := rfl
@[simp] theorem writeCsN_label (b : Bool) : (writeCsN b s).label = s.label := rfl
@[simp] theorem writeCsN_trace (b : Bool) : (writeCsN b s).trace = .select b :: s.trace := rfl
@[simp] theorem writeCsN_ticks (b : Bool) : (writeCsN b s).ticks = s.ticks := rfl
@[simp] theorem writeCsN_draws (b : Bool) : (writeCsN b s).draws = s.draws := rfl
@[simp] theorem writeCsN_moves (b : Bool) : (writeCsN b s).moves = s.moves := rfl

-- writeSck
@[simp] theorem writeSck_status (b : Bool) : (writeSck b s).status = s.status := rfl
@[simp] theorem writeSck_pincfg (b : Bool) : (writeSck b s).pincfg = s.pincfg := rfl
@[simp] theorem writeSck_csN (b : Bool) : (writeSck b s).csN = s.csN := rfl
@[simp] theorem writeSck_sck (b : Bool) : (writeSck b s).sck = b := rfl
@[simp] theorem writeSck_ph (b : Bool) : (writeSck b s).ph = s.ph := rfl
@[simp] theorem writeSck_bitcnt (b : Bool) : (writeSck b s).bitcnt = s.bitcnt := rfl
@[simp] theorem writeSck_dly (b : Bool) : (writeSck b s).dly = s.dly := rfl
@[simp] theorem writeSck_shreg (b : Bool) : (writeSck b s).shreg = s.shreg := rfl
@[simp] theorem writeSck_opsel (b : Bool) : (writeSck b s).opsel = s.opsel := rfl
@[simp] theorem writeSck_done (b : Bool) : (writeSck b s).done = s.done := rfl
@[simp] theorem writeSck_ok (b : Bool) : (writeSck b s).ok = s.ok := rfl
@[simp] theorem writeSck_data (b : Bool) : (writeSck b s).data = s.data := rfl
@[simp] theorem writeSck_host (b : Bool) : (writeSck b s).host = s.host := rfl
@[simp] theorem writeSck_script (b : Bool) : (writeSck b s).script = s.script := rfl
@[simp] theorem writeSck_so (b : Bool) : (writeSck b s).so = deviceOnClock s.selectWire s.clockWire (if s.pincfg.sckOe then b else Config.floatClock s.moves) s.so := rfl
@[simp] theorem writeSck_clsOut (b : Bool) : (writeSck b s).clsOut = s.clsOut := rfl
@[simp] theorem writeSck_extOut (b : Bool) : (writeSck b s).extOut = s.extOut := rfl
@[simp] theorem writeSck_temp (b : Bool) : (writeSck b s).temp = s.temp := rfl
@[simp] theorem writeSck_ftemp (b : Bool) : (writeSck b s).ftemp = s.ftemp := rfl
@[simp] theorem writeSck_errSeen (b : Bool) : (writeSck b s).errSeen = s.errSeen := rfl
@[simp] theorem writeSck_label (b : Bool) : (writeSck b s).label = s.label := rfl
@[simp] theorem writeSck_trace (b : Bool) : (writeSck b s).trace = .clock b :: s.trace := rfl
@[simp] theorem writeSck_ticks (b : Bool) : (writeSck b s).ticks = s.ticks := rfl
@[simp] theorem writeSck_draws (b : Bool) : (writeSck b s).draws = s.draws := rfl
@[simp] theorem writeSck_moves (b : Bool) : (writeSck b s).moves = s.moves := rfl

-- readSo
@[simp] theorem readSo_status : (readSo s).status = s.status := rfl
@[simp] theorem readSo_pincfg : (readSo s).pincfg = s.pincfg := rfl
@[simp] theorem readSo_csN : (readSo s).csN = s.csN := rfl
@[simp] theorem readSo_sck : (readSo s).sck = s.sck := rfl
@[simp] theorem readSo_ph : (readSo s).ph = s.ph := rfl
@[simp] theorem readSo_bitcnt : (readSo s).bitcnt = s.bitcnt := rfl
@[simp] theorem readSo_dly : (readSo s).dly = s.dly := rfl
@[simp] theorem readSo_shreg : (readSo s).shreg = s.shreg := rfl
@[simp] theorem readSo_opsel : (readSo s).opsel = s.opsel := rfl
@[simp] theorem readSo_done : (readSo s).done = s.done := rfl
@[simp] theorem readSo_ok : (readSo s).ok = s.ok := rfl
@[simp] theorem readSo_data : (readSo s).data = s.data := rfl
@[simp] theorem readSo_host : (readSo s).host = s.host := rfl
@[simp] theorem readSo_script : (readSo s).script = s.script := rfl
@[simp] theorem readSo_so : (readSo s).so = sourceAfterSample s.so := rfl
@[simp] theorem readSo_clsOut : (readSo s).clsOut = s.clsOut := rfl
@[simp] theorem readSo_extOut : (readSo s).extOut = s.extOut := rfl
@[simp] theorem readSo_temp : (readSo s).temp = s.temp := rfl
@[simp] theorem readSo_ftemp : (readSo s).ftemp = s.ftemp := rfl
@[simp] theorem readSo_errSeen : (readSo s).errSeen = s.errSeen := rfl
@[simp] theorem readSo_label : (readSo s).label = s.label := rfl
@[simp] theorem readSo_trace : (readSo s).trace = .sample s.soLevel :: s.trace := rfl
@[simp] theorem readSo_ticks : (readSo s).ticks = s.ticks := rfl
@[simp] theorem readSo_draws : (readSo s).draws = s.draws + 1 := rfl
@[simp] theorem readSo_moves : (readSo s).moves = s.moves := rfl

-- sampleInto
@[simp] theorem sampleInto_status (i : Nat) : (sampleInto i s).status = s.status := rfl
@[simp] theorem sampleInto_pincfg (i : Nat) : (sampleInto i s).pincfg = s.pincfg := rfl
@[simp] theorem sampleInto_csN (i : Nat) : (sampleInto i s).csN = s.csN := rfl
@[simp] theorem sampleInto_sck (i : Nat) : (sampleInto i s).sck = s.sck := rfl
@[simp] theorem sampleInto_ph (i : Nat) : (sampleInto i s).ph = s.ph := rfl
@[simp] theorem sampleInto_bitcnt (i : Nat) : (sampleInto i s).bitcnt = s.bitcnt := rfl
@[simp] theorem sampleInto_dly (i : Nat) : (sampleInto i s).dly = s.dly := rfl
@[simp] theorem sampleInto_shreg (i : Nat) : (sampleInto i s).shreg = assignBit s.shreg i s.soLevel := rfl
@[simp] theorem sampleInto_opsel (i : Nat) : (sampleInto i s).opsel = s.opsel := rfl
@[simp] theorem sampleInto_done (i : Nat) : (sampleInto i s).done = s.done := rfl
@[simp] theorem sampleInto_ok (i : Nat) : (sampleInto i s).ok = s.ok := rfl
@[simp] theorem sampleInto_data (i : Nat) : (sampleInto i s).data = s.data := rfl
@[simp] theorem sampleInto_host (i : Nat) : (sampleInto i s).host = s.host := rfl
@[simp] theorem sampleInto_script (i : Nat) : (sampleInto i s).script = s.script := rfl
@[simp] theorem sampleInto_so (i : Nat) : (sampleInto i s).so = sourceAfterSample s.so := rfl
@[simp] theorem sampleInto_clsOut (i : Nat) : (sampleInto i s).clsOut = s.clsOut := rfl
@[simp] theorem sampleInto_extOut (i : Nat) : (sampleInto i s).extOut = s.extOut := rfl
@[simp] theorem sampleInto_temp (i : Nat) : (sampleInto i s).temp = s.temp := rfl
@[simp] theorem sampleInto_ftemp (i : Nat) : (sampleInto i s).ftemp = s.ftemp := rfl
@[simp] theorem sampleInto_errSeen (i : Nat) : (sampleInto i s).errSeen = s.errSeen := rfl
@[simp] theorem sampleInto_label (i : Nat) : (sampleInto i s).label = s.label := rfl
@[simp] theorem sampleInto_trace (i : Nat) : (sampleInto i s).trace = .sample s.soLevel :: s.trace := rfl
@[simp] theorem sampleInto_ticks (i : Nat) : (sampleInto i s).ticks = s.ticks := rfl
@[simp] theorem sampleInto_draws (i : Nat) : (sampleInto i s).draws = s.draws + 1 := rfl
@[simp] theorem sampleInto_moves (i : Nat) : (sampleInto i s).moves = s.moves := rfl

-- accumulate
@[simp] theorem accumulate_status (i : Nat) : (accumulate i s).status = s.status := rfl
@[simp] theorem accumulate_pincfg (i : Nat) : (accumulate i s).pincfg = s.pincfg := rfl
@[simp] theorem accumulate_csN (i : Nat) : (accumulate i s).csN = s.csN := rfl
@[simp] theorem accumulate_sck (i : Nat) : (accumulate i s).sck = s.sck := rfl
@[simp] theorem accumulate_ph (i : Nat) : (accumulate i s).ph = s.ph := rfl
@[simp] theorem accumulate_bitcnt (i : Nat) : (accumulate i s).bitcnt = s.bitcnt := rfl
@[simp] theorem accumulate_dly (i : Nat) : (accumulate i s).dly = s.dly := rfl
@[simp] theorem accumulate_shreg (i : Nat) : (accumulate i s).shreg = setIfHigh s.shreg i s.soLevel := rfl
@[simp] theorem accumulate_opsel (i : Nat) : (accumulate i s).opsel = s.opsel := rfl
@[simp] theorem accumulate_done (i : Nat) : (accumulate i s).done = s.done := rfl
@[simp] theorem accumulate_ok (i : Nat) : (accumulate i s).ok = s.ok := rfl
@[simp] theorem accumulate_data (i : Nat) : (accumulate i s).data = s.data := rfl
@[simp] theorem accumulate_host (i : Nat) : (accumulate i s).host = s.host := rfl
@[simp] theorem accumulate_script (i : Nat) : (accumulate i s).script = s.script := rfl
@[simp] theorem accumulate_so (i : Nat) : (accumulate i s).so = sourceAfterSample s.so := rfl
@[simp] theorem accumulate_clsOut (i : Nat) : (accumulate i s).clsOut = s.clsOut := rfl
@[simp] theorem accumulate_extOut (i : Nat) : (accumulate i s).extOut = s.extOut := rfl
@[simp] theorem accumulate_temp (i : Nat) : (accumulate i s).temp = s.temp := rfl
@[simp] theorem accumulate_ftemp (i : Nat) : (accumulate i s).ftemp = s.ftemp := rfl
@[simp] theorem accumulate_errSeen (i : Nat) : (accumulate i s).errSeen = s.errSeen := rfl
@[simp] theorem accumulate_label (i : Nat) : (accumulate i s).label = s.label := rfl
@[simp] theorem accumulate_trace (i : Nat) : (accumulate i s).trace = .sample s.soLevel :: s.trace := rfl
@[simp] theorem accumulate_ticks (i : Nat) : (accumulate i s).ticks = s.ticks := rfl
@[simp] theorem accumulate_draws (i : Nat) : (accumulate i s).draws = s.draws + 1 := rfl
@[simp] theorem accumulate_moves (i : Nat) : (accumulate i s).moves = s.moves := rfl

-- countTick
@[simp] theorem countTick_status : (countTick s).status = s.status := rfl
@[simp] theorem countTick_pincfg : (countTick s).pincfg = s.pincfg := rfl
@[simp] theorem countTick_csN : (countTick s).csN = s.csN := rfl
@[simp] theorem countTick_sck : (countTick s).sck = s.sck := rfl
@[simp] theorem countTick_ph : (countTick s).ph = s.ph := rfl
@[simp] theorem countTick_bitcnt : (countTick s).bitcnt = s.bitcnt := rfl
@[simp] theorem countTick_dly : (countTick s).dly = s.dly := rfl
@[simp] theorem countTick_shreg : (countTick s).shreg = s.shreg := rfl
@[simp] theorem countTick_opsel : (countTick s).opsel = s.opsel := rfl
@[simp] theorem countTick_done : (countTick s).done = s.done := rfl
@[simp] theorem countTick_ok : (countTick s).ok = s.ok := rfl
@[simp] theorem countTick_data : (countTick s).data = s.data := rfl
@[simp] theorem countTick_host : (countTick s).host = s.host := rfl
@[simp] theorem countTick_script : (countTick s).script = s.script := rfl
@[simp] theorem countTick_so : (countTick s).so = s.so := rfl
@[simp] theorem countTick_clsOut : (countTick s).clsOut = s.clsOut := rfl
@[simp] theorem countTick_extOut : (countTick s).extOut = s.extOut := rfl
@[simp] theorem countTick_temp : (countTick s).temp = s.temp := rfl
@[simp] theorem countTick_ftemp : (countTick s).ftemp = s.ftemp := rfl
@[simp] theorem countTick_errSeen : (countTick s).errSeen = s.errSeen := rfl
@[simp] theorem countTick_label : (countTick s).label = s.label := rfl
@[simp] theorem countTick_trace : (countTick s).trace = s.trace := rfl
@[simp] theorem countTick_ticks : (countTick s).ticks = s.ticks + 1 := rfl
@[simp] theorem countTick_draws : (countTick s).draws = s.draws := rfl
@[simp] theorem countTick_moves : (countTick s).moves = s.moves := rfl

-- idleTick
@[simp] theorem idleTick_status : (idleTick s).status = s.status := rfl
@[simp] theorem idleTick_pincfg : (idleTick s).pincfg = s.pincfg := rfl
@[simp] theorem idleTick_csN : (idleTick s).csN = s.csN := rfl
@[simp] theorem idleTick_sck : (idleTick s).sck = s.sck := rfl
@[simp] theorem idleTick_ph : (idleTick s).ph = s.ph := rfl
@[simp] theorem idleTick_bitcnt : (idleTick s).bitcnt = s.bitcnt := rfl
@[simp] theorem idleTick_dly : (idleTick s).dly = s.dly := rfl
@[simp] theorem idleTick_shreg : (idleTick s).shreg = s.shreg := rfl
@[simp] theorem idleTick_opsel : (idleTick s).opsel = s.opsel := rfl
@[simp] theorem idleTick_done : (idleTick s).done = false := rfl
@[simp] theorem idleTick_ok : (idleTick s).ok = s.ok := rfl
@[simp] theorem idleTick_data : (idleTick s).data = s.data := rfl
@[simp] theorem idleTick_host : (idleTick s).host = s.host := rfl
@[simp] theorem idleTick_script : (idleTick s).script = s.script := rfl
@[simp] theorem idleTick_so : (idleTick s).so = s.so := rfl
@[simp] theorem idleTick_clsOut : (idleTick s).clsOut = s.clsOut := rfl
@[simp] theorem idleTick_extOut : (idleTick s).extOut = s.extOut := rfl
@[simp] theorem idleTick_temp : (idleTick s).temp = s.temp := rfl
@[simp] theorem idleTick_ftemp : (idleTick s).ftemp = s.ftemp := rfl
@[simp] theorem idleTick_errSeen : (idleTick s).errSeen = s.errSeen := rfl
@[simp] theorem idleTick_label : (idleTick s).label = s.label := rfl
@[simp] theorem idleTick_trace : (idleTick s).trace = s.trace := rfl
@[simp] theorem idleTick_ticks : (idleTick s).ticks = s.ticks + 1 := rfl
@[simp] theorem idleTick_draws : (idleTick s).draws = s.draws := rfl
@[simp] theorem idleTick_moves : (idleTick s).moves = s.moves := rfl

-- delay
@[simp] theorem delay_status (n : Nat) : (delay n s).status = s.status := rfl
@[simp] theorem delay_pincfg (n : Nat) : (delay n s).pincfg = s.pincfg := rfl
@[simp] theorem delay_csN (n : Nat) : (delay n s).csN = s.csN := rfl
@[simp] theorem delay_sck (n : Nat) : (delay n s).sck = s.sck := rfl
@[simp] theorem delay_ph (n : Nat) : (delay n s).ph = s.ph := rfl
@[simp] theorem delay_bitcnt (n : Nat) : (delay n s).bitcnt = s.bitcnt := rfl
@[simp] theorem delay_dly (n : Nat) : (delay n s).dly = 0 := rfl
@[simp] theorem delay_shreg (n : Nat) : (delay n s).shreg = s.shreg := rfl
@[simp] theorem delay_opsel (n : Nat) : (delay n s).opsel = s.opsel := rfl
@[simp] theorem delay_done (n : Nat) : (delay n s).done = s.done := rfl
@[simp] theorem delay_ok (n : Nat) : (delay n s).ok = s.ok := rfl
@[simp] theorem delay_data (n : Nat) : (delay n s).data = s.data := rfl
@[simp] theorem delay_host (n : Nat) : (delay n s).host = s.host := rfl
@[simp] theorem delay_script (n : Nat) : (delay n s).script = s.script := rfl
@[simp] theorem delay_so (n : Nat) : (delay n s).so = s.so := rfl
@[simp] theorem delay_clsOut (n : Nat) : (delay n s).clsOut = s.clsOut := rfl
@[simp] theorem delay_extOut (n : Nat) : (delay n s).extOut = s.extOut := rfl
@[simp] theorem delay_temp (n : Nat) : (delay n s).temp = s.temp := rfl
@[simp] theorem delay_ftemp (n : Nat) : (delay n s).ftemp = s.ftemp := rfl
@[simp] theorem delay_errSeen (n : Nat) : (delay n s).errSeen = s.errSeen := rfl
@[simp] theorem delay_label (n : Nat) : (delay n s).label = s.label := rfl
@[simp] theorem delay_trace (n : Nat) : (delay n s).trace = .delay :: s.trace := rfl
@[simp] theorem delay_ticks (n : Nat) : (delay n s).ticks = s.ticks + n := rfl
@[simp] theorem delay_draws (n : Nat) : (delay n s).draws = s.draws := rfl
@[simp] theorem delay_moves (n : Nat) : (delay n s).moves = s.moves := rfl

-- startDelay
@[simp] theorem startDelay_status (n : Nat) : (startDelay n s).status = s.status := rfl
@[simp] theorem startDelay_pincfg (n : Nat) : (startDelay n s).pincfg = s.pincfg := rfl
@[simp] theorem startDelay_csN (n : Nat) : (startDelay n s).csN = s.csN := rfl
@[simp] theorem startDelay_sck (n : Nat) : (startDelay n s).sck = s.sck := rfl
@[simp] theorem startDelay_ph (n : Nat) : (startDelay n s).ph = s.ph := rfl
@[simp] theorem startDelay_bitcnt (n : Nat) : (startDelay n s).bitcnt = s.bitcnt := rfl
@[simp] theorem startDelay_dly (n : Nat) : (startDelay n s).dly = n - 1 := rfl
@[simp] theorem startDelay_shreg (n : Nat) : (startDelay n s).shreg = s.shreg := rfl
@[simp] theorem startDelay_opsel (n : Nat) : (startDelay n s).opsel = s.opsel := rfl
@[simp] theorem startDelay_done (n : Nat) : (startDelay n s).done = s.done := rfl
@[simp] theorem startDelay_ok (n : Nat) : (startDelay n s).ok = s.ok := rfl
@[simp] theorem startDelay_data (n : Nat) : (startDelay n s).data = s.data := rfl
@[simp] theorem startDelay_host (n : Nat) : (startDelay n s).host = s.host := rfl
@[simp] theorem startDelay_script (n : Nat) : (startDelay n s).script = s.script := rfl
@[simp] theorem startDelay_so (n : Nat) : (startDelay n s).so = s.so := rfl
@[simp] theorem startDelay_clsOut (n : Nat) : (startDelay n s).clsOut = s.clsOut := rfl
@[simp] theorem startDelay_extOut (n : Nat) : (startDelay n s).extOut = s.extOut := rfl
@[simp] theorem startDelay_temp (n : Nat) : (startDelay n s).temp = s.temp := rfl
@[simp] theorem startDelay_ftemp (n : Nat) : (startDelay n s).ftemp = s.ftemp := rfl
@[simp] theorem startDelay_errSeen (n : Nat) : (startDelay n s).errSeen = s.errSeen := rfl
@[simp] theorem startDelay_label (n : Nat) : (startDelay n s).label = s.label := rfl
@[simp] theorem startDelay_trace (n : Nat) : (startDelay n s).trace = .delay :: s.trace := rfl
@[simp] theorem startDelay_ticks (n : Nat) : (startDelay n s).ticks = s.ticks := rfl
@[simp] theorem startDelay_draws (n : Nat) : (startDelay n s).draws = s.draws := rfl
@[simp] theorem startDelay_moves (n : Nat) : (startDelay n s).moves = s.moves := rfl

-- respond
@[simp] theorem respond_status (r : Option Int) : (respond r s).status = s.status := rfl
@[simp] theorem respond_pincfg (r : Option Int) : (respond r s).pincfg = s.pincfg := rfl
@[simp] theorem respond_csN (r : Option Int) : (respond r s).csN = s.csN := rfl
@[simp] theorem respond_sck (r : Option Int) : (respond r s).sck = s.sck := rfl
@[simp] theorem respond_ph (r : Option Int) : (respond r s).ph = s.ph := rfl
@[simp] theorem respond_bitcnt (r : Option Int) : (respond r s).bitcnt = s.bitcnt := rfl
@[simp] theorem respond_dly (r : Option Int) : (respond r s).dly = s.dly := rfl
@[simp] theorem respond_shreg (r : Option Int) : (respond r s).shreg = s.shreg := rfl
@[simp] theorem respond_opsel (r : Option Int) : (respond r s).opsel = s.opsel := rfl
@[simp] theorem respond_done (r : Option Int) : (respond r s).done = true := rfl
@[simp] theorem respond_ok (r : Option Int) : (respond r s).ok = r.isSome := rfl
@[simp] theorem respond_data (r : Option Int) : (respond r s).data = (r.map tc14).getD 0 := rfl
@[simp] theorem respond_host (r : Option Int) : (respond r s).host = s.host := rfl
@[simp] theorem respond_script (r : Option Int) : (respond r s).script = s.script := rfl
@[simp] theorem respond_so (r : Option Int) : (respond r s).so = s.so := rfl
@[simp] theorem respond_clsOut (r : Option Int) : (respond r s).clsOut = s.clsOut := rfl
@[simp] theorem respond_extOut (r : Option Int) : (respond r s).extOut = s.extOut := rfl
@[simp] theorem respond_temp (r : Option Int) : (respond r s).temp = s.temp := rfl
@[simp] theorem respond_ftemp (r : Option Int) : (respond r s).ftemp = s.ftemp := rfl
@[simp] theorem respond_errSeen (r : Option Int) : (respond r s).errSeen = s.errSeen := rfl
@[simp] theorem respond_label (r : Option Int) : (respond r s).label = s.label := rfl
@[simp] theorem respond_trace (r : Option Int) : (respond r s).trace = s.trace := rfl
@[simp] theorem respond_ticks (r : Option Int) : (respond r s).ticks = s.ticks := rfl
@[simp] theorem respond_draws (r : Option Int) : (respond r s).draws = s.draws := rfl
@[simp] theorem respond_moves (r : Option Int) : (respond r s).moves = s.moves := rfl

-- runClassify
@[simp] theorem runClassify_status : (runClassify s).status = s.status := rfl
@[simp] theorem runClassify_pincfg : (runClassify s).pincfg = s.pincfg := rfl
@[simp] theorem runClassify_csN : (runClassify s).csN = s.csN := rfl
@[simp] theorem runClassify_sck : (runClassify s).sck = s.sck := rfl
@[simp] theorem runClassify_ph : (runClassify s).ph = s.ph := rfl
@[simp] theorem runClassify_bitcnt : (runClassify s).bitcnt = s.bitcnt := rfl
@[simp] theorem runClassify_dly : (runClassify s).dly = s.dly := rfl
@[simp] theorem runClassify_shreg : (runClassify s).shreg = s.shreg := rfl
@[simp] theorem runClassify_opsel : (runClassify s).opsel = s.opsel := rfl
@[simp] theorem runClassify_done : (runClassify s).done = s.done := rfl
@[simp] theorem runClassify_ok : (runClassify s).ok = s.ok := rfl
@[simp] theorem runClassify_data : (runClassify s).data = s.data := rfl
@[simp] theorem runClassify_host : (runClassify s).host = s.host := rfl
@[simp] theorem runClassify_script : (runClassify s).script = s.script := rfl
@[simp] theorem runClassify_so : (runClassify s).so = s.so := rfl
@[simp] theorem runClassify_clsOut : (runClassify s).clsOut = classifyFrame s.shreg := rfl
@[simp] theorem runClassify_extOut : (runClassify s).extOut = s.extOut := rfl
@[simp] theorem runClassify_temp : (runClassify s).temp = s.temp := rfl
@[simp] theorem runClassify_ftemp : (runClassify s).ftemp = s.ftemp := rfl
@[simp] theorem runClassify_errSeen : (runClassify s).errSeen = s.errSeen := rfl
@[simp] theorem runClassify_label : (runClassify s).label = s.label := rfl
@[simp] theorem runClassify_trace : (runClassify s).trace = s.trace := rfl
@[simp] theorem runClassify_ticks : (runClassify s).ticks = s.ticks := rfl
@[simp] theorem runClassify_draws : (runClassify s).draws = s.draws := rfl
@[simp] theorem runClassify_moves : (runClassify s).moves = s.moves := rfl

-- runExtTc
@[simp] theorem runExtTc_status : (runExtTc s).status = s.status := rfl
@[simp] theorem runExtTc_pincfg : (runExtTc s).pincfg = s.pincfg := rfl
@[simp] theorem runExtTc_csN : (runExtTc s).csN = s.csN := rfl
@[simp] theorem runExtTc_sck : (runExtTc s).sck = s.sck := rfl
@[simp] theorem runExtTc_ph : (runExtTc s).ph = s.ph := rfl
@[simp] theorem runExtTc_bitcnt : (runExtTc s).bitcnt = s.bitcnt := rfl
@[simp] theorem runExtTc_dly : (runExtTc s).dly = s.dly := rfl
@[simp] theorem runExtTc_shreg : (runExtTc s).shreg = s.shreg := rfl
@[simp] theorem runExtTc_opsel : (runExtTc s).opsel = s.opsel := rfl
@[simp] theorem runExtTc_done : (runExtTc s).done = s.done := rfl
@[simp] theorem runExtTc_ok : (runExtTc s).ok = s.ok := rfl
@[simp] theorem runExtTc_data : (runExtTc s).data = s.data := rfl
@[simp] theorem runExtTc_host : (runExtTc s).host = s.host := rfl
@[simp] theorem runExtTc_script : (runExtTc s).script = s.script := rfl
@[simp] theorem runExtTc_so : (runExtTc s).so = s.so := rfl
@[simp] theorem runExtTc_clsOut : (runExtTc s).clsOut = s.clsOut := rfl
@[simp] theorem runExtTc_extOut : (runExtTc s).extOut = tcCount s.shreg := rfl
@[simp] theorem runExtTc_temp : (runExtTc s).temp = s.temp := rfl
@[simp] theorem runExtTc_ftemp : (runExtTc s).ftemp = s.ftemp := rfl
@[simp] theorem runExtTc_errSeen : (runExtTc s).errSeen = s.errSeen := rfl
@[simp] theorem runExtTc_label : (runExtTc s).label = s.label := rfl
@[simp] theorem runExtTc_trace : (runExtTc s).trace = s.trace := rfl
@[simp] theorem runExtTc_ticks : (runExtTc s).ticks = s.ticks := rfl
@[simp] theorem runExtTc_draws : (runExtTc s).draws = s.draws := rfl
@[simp] theorem runExtTc_moves : (runExtTc s).moves = s.moves := rfl

-- runExtInt
@[simp] theorem runExtInt_status : (runExtInt s).status = s.status := rfl
@[simp] theorem runExtInt_pincfg : (runExtInt s).pincfg = s.pincfg := rfl
@[simp] theorem runExtInt_csN : (runExtInt s).csN = s.csN := rfl
@[simp] theorem runExtInt_sck : (runExtInt s).sck = s.sck := rfl
@[simp] theorem runExtInt_ph : (runExtInt s).ph = s.ph := rfl
@[simp] theorem runExtInt_bitcnt : (runExtInt s).bitcnt = s.bitcnt := rfl
@[simp] theorem runExtInt_dly : (runExtInt s).dly = s.dly := rfl
@[simp] theorem runExtInt_shreg : (runExtInt s).shreg = s.shreg := rfl
@[simp] theorem runExtInt_opsel : (runExtInt s).opsel = s.opsel := rfl
@[simp] theorem runExtInt_done : (runExtInt s).done = s.done := rfl
@[simp] theorem runExtInt_ok : (runExtInt s).ok = s.ok := rfl
@[simp] theorem runExtInt_data : (runExtInt s).data = s.data := rfl
@[simp] theorem runExtInt_host : (runExtInt s).host = s.host := rfl
@[simp] theorem runExtInt_script : (runExtInt s).script = s.script := rfl
@[simp] theorem runExtInt_so : (runExtInt s).so = s.so := rfl
@[simp] theorem runExtInt_clsOut : (runExtInt s).clsOut = s.clsOut := rfl
@[simp] theorem runExtInt_extOut : (runExtInt s).extOut = intCount s.shreg := rfl
@[simp] theorem runExtInt_temp : (runExtInt s).temp = s.temp := rfl
@[simp] theorem runExtInt_ftemp : (runExtInt s).ftemp = s.ftemp := rfl
@[simp] theorem runExtInt_errSeen : (runExtInt s).errSeen = s.errSeen := rfl
@[simp] theorem runExtInt_label : (runExtInt s).label = s.label := rfl
@[simp] theorem runExtInt_trace : (runExtInt s).trace = s.trace := rfl
@[simp] theorem runExtInt_ticks : (runExtInt s).ticks = s.ticks := rfl
@[simp] theorem runExtInt_draws : (runExtInt s).draws = s.draws := rfl
@[simp] theorem runExtInt_moves : (runExtInt s).moves = s.moves := rfl

-- recordStatus
@[simp] theorem recordStatus_status : (recordStatus s).status = s.clsOut := rfl
@[simp] theorem recordStatus_pincfg : (recordStatus s).pincfg = s.pincfg := rfl
@[simp] theorem recordStatus_csN : (recordStatus s).csN = s.csN := rfl
@[simp] theorem recordStatus_sck : (recordStatus s).sck = s.sck := rfl
@[simp] theorem recordStatus_ph : (recordStatus s).ph = s.ph := rfl
@[simp] theorem recordStatus_bitcnt : (recordStatus s).bitcnt = s.bitcnt := rfl
@[simp] theorem recordStatus_dly : (recordStatus s).dly = s.dly := rfl
@[simp] theorem recordStatus_shreg : (recordStatus s).shreg = s.shreg := rfl
@[simp] theorem recordStatus_opsel : (recordStatus s).opsel = s.opsel := rfl
@[simp] theorem recordStatus_done : (recordStatus s).done = s.done := rfl
@[simp] theorem recordStatus_ok : (recordStatus s).ok = s.ok := rfl
@[simp] theorem recordStatus_data : (recordStatus s).data = s.data := rfl
@[simp] theorem recordStatus_host : (recordStatus s).host = s.host := rfl
@[simp] theorem recordStatus_script : (recordStatus s).script = s.script := rfl
@[simp] theorem recordStatus_so : (recordStatus s).so = s.so := rfl
@[simp] theorem recordStatus_clsOut : (recordStatus s).clsOut = s.clsOut := rfl
@[simp] theorem recordStatus_extOut : (recordStatus s).extOut = s.extOut := rfl
@[simp] theorem recordStatus_temp : (recordStatus s).temp = s.temp := rfl
@[simp] theorem recordStatus_ftemp : (recordStatus s).ftemp = s.ftemp := rfl
@[simp] theorem recordStatus_errSeen : (recordStatus s).errSeen = s.errSeen := rfl
@[simp] theorem recordStatus_label : (recordStatus s).label = s.label := rfl
@[simp] theorem recordStatus_trace : (recordStatus s).trace = s.trace := rfl
@[simp] theorem recordStatus_ticks : (recordStatus s).ticks = s.ticks := rfl
@[simp] theorem recordStatus_draws : (recordStatus s).draws = s.draws := rfl
@[simp] theorem recordStatus_moves : (recordStatus s).moves = s.moves := rfl

-- moveWires: the count of moves, and the device's view of them
theorem moveWires_eq : moveWires s =
    { s with so := seenByDevice s { s with moves := s.moves + 1 }, moves := s.moves + 1 } := rfl

-- resetTick: the twelve registers, the bookkeeping, and the device's view
theorem resetTick_eq : resetTick s = { State.reset with
    host := s.host, script := s.script, so := seenByDevice s { s with pincfg := ⟨false, false, false⟩ },
    clsOut := s.clsOut, extOut := s.extOut, temp := s.temp, ftemp := s.ftemp, errSeen := s.errSeen, label := s.label,
    trace := .reset :: s.trace, ticks := s.ticks + 1, draws := s.draws, moves := s.moves } := rfl

/-! ### The device's view of the wires -/

variable (t : State)

theorem seenByDevice_any (h : s.so = .any) : seenByDevice s t = .any := by simp only [seenByDevice, h]
theorem seenByDevice_script (bits : List Bool) (h : s.so = .script bits) : seenByDevice s t = .script bits := by
  simp only [seenByDevice, h]

/-- The reference device keeps its frame, whatever the wires do. -/
theorem seenByDevice_dev (f : Frame) (n : Nat) (h : s.so = .dev f n) : ∃ m, seenByDevice s t = .dev f m := by
  simp only [seenByDevice, h]
  split <;> exact ⟨_, rfl⟩

/-- While the select wire stands still, the device follows the clock wire. -/
theorem seenByDevice_select_still (h : t.selectWire = s.selectWire) :
    seenByDevice s t = deviceOnClock s.selectWire s.clockWire t.clockWire s.so := by
  cases e : s.so <;> simp [seenByDevice, deviceOnSelect, deviceOnClock, e, h]

/-- While the clock wire stands still, the device follows the select wire. -/
theorem seenByDevice_clock_still (h : t.clockWire = s.clockWire) :
    seenByDevice s t = deviceOnSelect s.selectWire t.selectWire s.so := by
  cases e : s.so <;> cases hc : s.clockWire <;> simp [seenByDevice, deviceOnSelect, deviceOnClock, e, h, hc]

end Sys2Proof.Machine
end

