-- ==== Sys2Proof/Laws/Acquire.lean ====
section
/-! SUPPORT. What an acquisition at the operation level does to each field: the spec lemmas of `bitCycle`, `shiftIn`
and `acquire`. -/

namespace Sys2Proof.Machine

/-! ### Fields -/

@[simp] theorem bitCycle_status (n i : Nat) (s : State) : (bitCycle n i s).status = s.status := by simp [bitCycle]
@[simp] theorem bitCycle_pincfg (n i : Nat) (s : State) : (bitCycle n i s).pincfg = s.pincfg := by simp [bitCycle]
@[simp] theorem bitCycle_csN (n i : Nat) (s : State) : (bitCycle n i s).csN = s.csN := by simp [bitCycle]
@[simp] theorem bitCycle_ph (n i : Nat) (s : State) : (bitCycle n i s).ph = s.ph := by simp [bitCycle]
@[simp] theorem bitCycle_opsel (n i : Nat) (s : State) : (bitCycle n i s).opsel = s.opsel := by simp [bitCycle]
@[simp] theorem bitCycle_done (n i : Nat) (s : State) : (bitCycle n i s).done = s.done := by simp [bitCycle]
@[simp] theorem bitCycle_ok (n i : Nat) (s : State) : (bitCycle n i s).ok = s.ok := by simp [bitCycle]
@[simp] theorem bitCycle_data (n i : Nat) (s : State) : (bitCycle n i s).data = s.data := by simp [bitCycle]
@[simp] theorem bitCycle_host (n i : Nat) (s : State) : (bitCycle n i s).host = s.host := by simp [bitCycle]
@[simp] theorem bitCycle_script (n i : Nat) (s : State) : (bitCycle n i s).script = s.script := by simp [bitCycle]
@[simp] theorem bitCycle_clsOut (n i : Nat) (s : State) : (bitCycle n i s).clsOut = s.clsOut := by simp [bitCycle]
@[simp] theorem bitCycle_extOut (n i : Nat) (s : State) : (bitCycle n i s).extOut = s.extOut := by simp [bitCycle]
@[simp] theorem bitCycle_temp (n i : Nat) (s : State) : (bitCycle n i s).temp = s.temp := by simp [bitCycle]
@[simp] theorem bitCycle_ftemp (n i : Nat) (s : State) : (bitCycle n i s).ftemp = s.ftemp := by simp [bitCycle]
@[simp] theorem bitCycle_errSeen (n i : Nat) (s : State) : (bitCycle n i s).errSeen = s.errSeen := by simp [bitCycle]
@[simp] theorem bitCycle_label (n i : Nat) (s : State) : (bitCycle n i s).label = s.label := by simp [bitCycle]
@[simp] theorem bitCycle_sck (n i : Nat) (s : State) : (bitCycle n i s).sck = false := by simp [bitCycle]
@[simp] theorem bitCycle_dly (n i : Nat) (s : State) : (bitCycle n i s).dly = 0 := by simp [bitCycle]
@[simp] theorem bitCycle_bitcnt (n i : Nat) (s : State) : (bitCycle n i s).bitcnt = BitVec.ofNat 5 i := by
  simp [bitCycle]
@[simp] theorem bitCycle_moves (n i : Nat) (s : State) : (bitCycle n i s).moves = s.moves := by simp [bitCycle]
@[simp] theorem bitCycle_draws (n i : Nat) (s : State) : (bitCycle n i s).draws = s.draws + 1 := by simp [bitCycle]
@[simp] theorem bitCycle_ticks (n i : Nat) (s : State) : (bitCycle n i s).ticks = s.ticks + 2 * n := by
  simp [bitCycle]; omega
@[simp] theorem bitCycle_shreg (n i : Nat) (s : State) :
    (bitCycle n i s).shreg = setIfHigh s.shreg i s.soLevel := by
  simp [bitCycle]; rfl
@[simp] theorem bitCycle_trace (n i : Nat) (s : State) :
    (bitCycle n i s).trace =
      .delay :: .clock false :: .delay :: .clock true :: .sample s.soLevel :: s.trace := by
  simp [bitCycle]; rfl

@[simp] theorem shiftIn_status (n k : Nat) (s : State) : (shiftIn n k s).status = s.status := by
  induction k generalizing s <;> simp [shiftIn, *]
@[simp] theorem shiftIn_pincfg (n k : Nat) (s : State) : (shiftIn n k s).pincfg = s.pincfg := by
  induction k generalizing s <;> simp [shiftIn, *]
@[simp] theorem shiftIn_csN (n k : Nat) (s : State) : (shiftIn n k s).csN = s.csN := by
  induction k generalizing s <;> simp [shiftIn, *]
@[simp] theorem shiftIn_ph (n k : Nat) (s : State) : (shiftIn n k s).ph = s.ph := by
  induction k generalizing s <;> simp [shiftIn, *]
@[simp] theorem shiftIn_opsel (n k : Nat) (s : State) : (shiftIn n k s).opsel = s.opsel := by
  induction k generalizing s <;> simp [shiftIn, *]
@[simp] theorem shiftIn_done (n k : Nat) (s : State) : (shiftIn n k s).done = s.done := by
  induction k generalizing s <;> simp [shiftIn, *]
@[simp] theorem shiftIn_ok (n k : Nat) (s : State) : (shiftIn n k s).ok = s.ok := by
  induction k generalizing s <;> simp [shiftIn, *]
@[simp] theorem shiftIn_data (n k : Nat) (s : State) : (shiftIn n k s).data = s.data := by
  induction k generalizing s <;> simp [shiftIn, *]
@[simp] theorem shiftIn_host (n k : Nat) (s : State) : (shiftIn n k s).host = s.host := by
  induction k generalizing s <;> simp [shiftIn, *]
@[simp] theorem shiftIn_script (n k : Nat) (s : State) : (shiftIn n k s).script = s.script := by
  induction k generalizing s <;> simp [shiftIn, *]
@[simp] theorem shiftIn_clsOut (n k : Nat) (s : State) : (shiftIn n k s).clsOut = s.clsOut := by
  induction k generalizing s <;> simp [shiftIn, *]
@[simp] theorem shiftIn_extOut (n k : Nat) (s : State) : (shiftIn n k s).extOut = s.extOut := by
  induction k generalizing s <;> simp [shiftIn, *]
@[simp] theorem shiftIn_temp (n k : Nat) (s : State) : (shiftIn n k s).temp = s.temp := by
  induction k generalizing s <;> simp [shiftIn, *]
@[simp] theorem shiftIn_ftemp (n k : Nat) (s : State) : (shiftIn n k s).ftemp = s.ftemp := by
  induction k generalizing s <;> simp [shiftIn, *]
@[simp] theorem shiftIn_errSeen (n k : Nat) (s : State) : (shiftIn n k s).errSeen = s.errSeen := by
  induction k generalizing s <;> simp [shiftIn, *]
@[simp] theorem shiftIn_label (n k : Nat) (s : State) : (shiftIn n k s).label = s.label := by
  induction k generalizing s <;> simp [shiftIn, *]
@[simp] theorem shiftIn_ticks (n k : Nat) (s : State) : (shiftIn n k s).ticks = s.ticks + 2 * n * k := by
  induction k generalizing s with
  | zero => simp [shiftIn]
  | succ k ih => simp [shiftIn, ih, Nat.mul_succ]; omega
@[simp] theorem shiftIn_moves (n k : Nat) (s : State) : (shiftIn n k s).moves = s.moves := by
  induction k generalizing s <;> simp [shiftIn, *]
@[simp] theorem shiftIn_draws (n k : Nat) (s : State) : (shiftIn n k s).draws = s.draws + k := by
  induction k generalizing s with
  | zero => simp [shiftIn]
  | succ k ih => simp [shiftIn, ih]; omega
theorem shiftIn_sck (n k : Nat) (s : State) (h : 0 < k) : (shiftIn n k s).sck = false := by
  induction k generalizing s with
  | zero => omega
  | succ k ih =>
    rcases Nat.eq_zero_or_pos k with rfl | hk
    · simp [shiftIn]
    · simpa [shiftIn] using ih _ hk
theorem shiftIn_dly (n k : Nat) (s : State) (h : 0 < k) : (shiftIn n k s).dly = 0 := by
  induction k generalizing s with
  | zero => omega
  | succ k ih =>
    rcases Nat.eq_zero_or_pos k with rfl | hk
    · simp [shiftIn]
    · simpa [shiftIn] using ih _ hk
theorem shiftIn_bitcnt (n k : Nat) (s : State) (h : 0 < k) : (shiftIn n k s).bitcnt = 0 := by
  induction k generalizing s with
  | zero => omega
  | succ k ih =>
    rcases Nat.eq_zero_or_pos k with rfl | hk
    · simp [shiftIn]
    · simpa [shiftIn] using ih _ hk

@[simp] theorem acquire_status (n : Nat) (s : State) : (acquire n s).status = s.status := by simp [acquire]
@[simp] theorem acquire_pincfg (n : Nat) (s : State) : (acquire n s).pincfg = s.pincfg := by simp [acquire]
@[simp] theorem acquire_ph (n : Nat) (s : State) : (acquire n s).ph = s.ph := by simp [acquire]
@[simp] theorem acquire_opsel (n : Nat) (s : State) : (acquire n s).opsel = s.opsel := by simp [acquire]
@[simp] theorem acquire_ok (n : Nat) (s : State) : (acquire n s).ok = s.ok := by simp [acquire]
@[simp] theorem acquire_data (n : Nat) (s : State) : (acquire n s).data = s.data := by simp [acquire]
@[simp] theorem acquire_host (n : Nat) (s : State) : (acquire n s).host = s.host := by simp [acquire]
@[simp] theorem acquire_script (n : Nat) (s : State) : (acquire n s).script = s.script := by simp [acquire]
@[simp] theorem acquire_clsOut (n : Nat) (s : State) : (acquire n s).clsOut = s.clsOut := by simp [acquire]
@[simp] theorem acquire_extOut (n : Nat) (s : State) : (acquire n s).extOut = s.extOut := by simp [acquire]
@[simp] theorem acquire_temp (n : Nat) (s : State) : (acquire n s).temp = s.temp := by simp [acquire]
@[simp] theorem acquire_ftemp (n : Nat) (s : State) : (acquire n s).ftemp = s.ftemp := by simp [acquire]
@[simp] theorem acquire_errSeen (n : Nat) (s : State) : (acquire n s).errSeen = s.errSeen := by simp [acquire]
@[simp] theorem acquire_label (n : Nat) (s : State) : (acquire n s).label = s.label := by simp [acquire]
@[simp] theorem acquire_csN (n : Nat) (s : State) : (acquire n s).csN = true := by simp [acquire]
@[simp] theorem acquire_sck (n : Nat) (s : State) : (acquire n s).sck = false := by simp [acquire, shiftIn_sck]
@[simp] theorem acquire_dly (n : Nat) (s : State) : (acquire n s).dly = 0 := by simp [acquire, shiftIn_dly]
@[simp] theorem acquire_bitcnt (n : Nat) (s : State) : (acquire n s).bitcnt = 0 := by simp [acquire, shiftIn_bitcnt]
@[simp] theorem acquire_done (n : Nat) (s : State) : (acquire n s).done = false := by simp [acquire]
@[simp] theorem acquire_moves (n : Nat) (s : State) : (acquire n s).moves = s.moves := by simp [acquire]
@[simp] theorem acquire_draws (n : Nat) (s : State) : (acquire n s).draws = s.draws + 32 := by simp [acquire]
@[simp] theorem acquire_ticks (n : Nat) (s : State) : (acquire n s).ticks = s.ticks + 1 + 65 * n := by
  simp [acquire]; omega

end Sys2Proof.Machine
end

