-- ==== Sys2Proof/Laws/Samples.lean ====
section
/-! SUPPORT. The samples an acquisition takes, and what they make of SHREG and of the trace. -/

namespace Sys2Proof.Machine

/-- The levels the loop of ACQ reads for the bits `k - 1` down to 0, in time order. -/
def loopLevels (n : Nat) : Nat → State → List Bool
  | 0, _ => []
  | k + 1, s => s.soLevel :: loopLevels n k (bitCycle n k s)

/-- The events of the loop of ACQ with these levels, in time order (41_acquire.md R81). -/
def loopEvents (bits : List Bool) : List PinEvent :=
  bits.flatMap fun b => [.sample b, .clock true, .delay, .clock false, .delay]

@[simp] theorem length_loopLevels (n k : Nat) (s : State) : (loopLevels n k s).length = k := by
  induction k generalizing s <;> simp [loopLevels, *]

theorem shiftIn_trace (n k : Nat) (s : State) :
    (shiftIn n k s).trace = (loopEvents (loopLevels n k s)).reverse ++ s.trace := by
  induction k generalizing s with
  | zero => simp [shiftIn, loopLevels, loopEvents]
  | succ k ih => simp [shiftIn, loopLevels, ih, loopEvents]

theorem getLsbD_setIfHigh (f : Frame) (i j : Nat) (b : Bool) (hi : i < 32) :
    (setIfHigh f i b).getLsbD j = (f.getLsbD j || (decide (j = i) && b)) := by
  cases b with
  | false => simp [setIfHigh]
  | true =>
    simp only [setIfHigh, if_true, BitVec.getLsbD_or, BitVec.getLsbD_shiftLeft, Bool.and_true]
    by_cases hj : j = i
    · subst hj; simp [hi]
    · rcases Nat.lt_or_ge j i with h | h
      · simp [h, hj]
      · have : j - i ≠ 0 := by omega
        simp [hj, BitVec.getLsbD_one, this]

theorem getLsbD_assignBit (f : Frame) (i j : Nat) (b : Bool) (hi : i < 32) (hj : j < 32) :
    (assignBit f i b).getLsbD j = if j = i then b else f.getLsbD j := by
  cases b with
  | true =>
    have := getLsbD_setIfHigh f i j true hi
    simp only [setIfHigh, if_true] at this
    simp only [assignBit, if_true, this]
    by_cases h : j = i <;> simp [h]
  | false =>
    simp only [assignBit, Bool.false_eq_true, if_false, BitVec.getLsbD_and, BitVec.getLsbD_not,
      BitVec.getLsbD_shiftLeft]
    by_cases h : j = i
    · subst h; simp
    · rcases Nat.lt_or_ge j i with h' | h'
      · simp [h, h', hj]
      · have : j - i ≠ 0 := by omega
        simp [h, hj, BitVec.getLsbD_one, this]

/-- Assigning a bit that is 0 is setting it if high (41_acquire.md R90). -/
theorem assignBit_eq_setIfHigh (f : Frame) (i : Nat) (b : Bool) (hi : i < 32) (h : f.getLsbD i = false) :
    assignBit f i b = setIfHigh f i b := by
  apply BitVec.eq_of_getLsbD_eq
  intro j hj
  rw [getLsbD_assignBit f i j b hi hj, getLsbD_setIfHigh f i j b hi]
  by_cases e : j = i
  · subst e; simp [h]
  · simp [e]

/-- Bit `i` of SHREG after the loop is the sample taken for it, over what stood there (41_acquire.md R90). -/
theorem shiftIn_shreg (n k : Nat) (s : State) (hk : k ≤ 32) (i : Nat) :
    (shiftIn n k s).shreg.getLsbD i =
      (s.shreg.getLsbD i || (decide (i < k) && (loopLevels n k s).getD (k - 1 - i) false)) := by
  induction k generalizing s with
  | zero => simp [shiftIn]
  | succ k ih =>
    rw [shiftIn, ih _ (by omega), bitCycle_shreg, getLsbD_setIfHigh _ _ _ _ (by omega), loopLevels]
    by_cases h : i = k
    · subst h; simp
    · rcases Nat.lt_or_ge i k with h' | h'
      · have e : k - i = (k - 1 - i) + 1 := by omega
        simp [h, h', Nat.lt_succ_of_lt h', e]
      · simp [h, Nat.not_lt.mpr h', show ¬ i < k + 1 by omega]

/-! ### The sources -/

/-- A rising clock edge does not concern the device (20_memory.md R44, R46). -/
@[simp] theorem deviceOnClock_rise (select before : Bool) (l : SoSource) :
    deviceOnClock select before true l = l := by cases l <;> simp [deviceOnClock]

/-- Nor does a clock edge while select is high. -/
@[simp] theorem deviceOnClock_deselected (before after : Bool) (l : SoSource) :
    deviceOnClock true before after l = l := by cases l <;> simp [deviceOnClock]

/-- Nor does select going high. -/
@[simp] theorem deviceOnSelect_rise (before : Bool) (l : SoSource) :
    deviceOnSelect before true l = l := by cases l <;> simp [deviceOnSelect]

theorem bitCycle_so_script (n i : Nat) (s : State) (bits : List Bool) (h : s.so = .script bits) :
    (bitCycle n i s).so = .script bits.tail := by
  simp [bitCycle, h, sourceAfterSample, deviceOnClock]

theorem bitCycle_so_any (n i : Nat) (s : State) (h : s.so = .any) : (bitCycle n i s).so = .any := by
  simp [bitCycle, h, sourceAfterSample, deviceOnClock]

theorem bitCycle_so_dev (n i : Nat) (s : State) (f : Frame) (m : Nat)
    (h : s.so = .dev f m) (hp : s.pincfg = ⟨true, true, true⟩) (hc : s.csN = false) :
    (bitCycle n i s).so = .dev f (m + 1) := by
  simp [bitCycle, h, hp, hc, sourceAfterSample, deviceOnClock, State.clockWire, State.selectWire]

/-- A scripted source answers with its samples in time order. -/
theorem loopLevels_script (n k : Nat) (s : State) (bits rest : List Bool)
    (hl : bits.length = k) (h : s.so = .script (bits ++ rest)) : loopLevels n k s = bits := by
  induction k generalizing s bits with
  | zero => simpa [loopLevels] using (List.length_eq_zero_iff.mp hl).symm
  | succ k ih =>
    cases bits with
    | nil => simp at hl
    | cons b bits =>
      simp only [loopLevels]
      rw [ih _ bits (by simpa using hl) (by rw [bitCycle_so_script n k s _ h]; rfl)]
      simp [State.soLevel, h]

theorem shiftIn_so_script (n k : Nat) (s : State) (bits rest : List Bool)
    (hl : bits.length = k) (h : s.so = .script (bits ++ rest)) : (shiftIn n k s).so = .script rest := by
  induction k generalizing s bits with
  | zero => simpa [shiftIn, List.length_eq_zero_iff.mp hl] using h
  | succ k ih =>
    cases bits with
    | nil => simp at hl
    | cons b bits =>
      exact ih _ bits (by simpa using hl) (by rw [bitCycle_so_script n k s _ h]; rfl)

/-- The reference device answers with its frame, most significant bit first (20_memory.md R46, R54). -/
theorem loopLevels_dev (n k : Nat) (s : State) (f : Frame) (m : Nat) (hm : m + k ≤ 32)
    (h : s.so = .dev f m) (hp : s.pincfg = ⟨true, true, true⟩) (hc : s.csN = false) :
    loopLevels n k s = (List.range k).map fun j => f.getLsbD (31 - (m + j)) := by
  induction k generalizing s m with
  | zero => simp [loopLevels]
  | succ k ih =>
    rw [loopLevels, ih _ (m + 1) (by omega) (bitCycle_so_dev n k s f m h hp hc) (by simpa) (by simpa),
      List.range_succ_eq_map]
    have : m ≤ 31 := by omega
    simp [State.soLevel, h, State.selectWire, hp, hc, this, Function.comp_def, Nat.add_assoc, Nat.add_comm 1]

/-- The samples depend on the source, the pins and the draws alone: not on N_SETTLE, nor on any other register. -/
theorem loopLevels_congr (n m k : Nat) (s t : State) (hp : s.pincfg = ⟨true, true, true⟩)
    (hq : t.pincfg = ⟨true, true, true⟩) (hc : s.csN = t.csN) (hs : s.so = t.so) (hd : s.draws = t.draws) :
    loopLevels n k s = loopLevels m k t := by
  induction k generalizing s t with
  | zero => rfl
  | succ k ih =>
    have hl : s.soLevel = t.soLevel := by simp [State.soLevel, State.selectWire, hp, hq, hc, hs, hd]
    rw [loopLevels, loopLevels, hl, ih (bitCycle n k s) (bitCycle m k t) (by simpa) (by simpa) (by simpa)]
    · simp [bitCycle, State.clockWire, State.selectWire, hp, hq, hc, hs]
    · simpa using hd

/-! ### The acquisition -/

/-- The state of ACQ when its loop begins: select low, one delay past (41_acquire.md R82). -/
def selected (n : Nat) (s : State) : State := delay n (writeCsN false { idleTick s with shreg := 0 })

/-- The 32 samples of ACQ, in time order. -/
def acqLevels (n : Nat) (s : State) : List Bool := loopLevels n 32 (selected n s)

@[simp] theorem length_acqLevels (n : Nat) (s : State) : (acqLevels n s).length = 32 := by simp [acqLevels]

theorem acquire_eq (n : Nat) (s : State) : acquire n s = writeCsN true (shiftIn n 32 (selected n s)) := rfl

/-- SHREG[31 - k] = b_k (41_acquire.md R90). -/
theorem acquire_shreg (n : Nat) (s : State) (i : Nat) :
    (acquire n s).shreg.getLsbD i = (decide (i < 32) && (acqLevels n s).getD (31 - i) false) := by
  rw [acquire_eq, writeCsN_shreg, shiftIn_shreg n 32 _ (Nat.le_refl _)]
  simp [acqLevels, selected]

/-- The trace of one ACQ (41_acquire.md R81). -/
theorem acquire_trace (n : Nat) (s : State) :
    (acquire n s).trace = (acqEvents (acqLevels n s)).reverse ++ s.trace := by
  rw [acquire_eq, writeCsN_trace, shiftIn_trace]
  simp [acqEvents, acqLevels, selected, loopEvents]

theorem acqLevels_script (n : Nat) (s : State) (bits rest : List Bool) (hl : bits.length = 32)
    (h : s.so = .script (bits ++ rest)) : acqLevels n s = bits :=
  loopLevels_script n 32 _ bits rest hl (by simp [selected, h, deviceOnSelect])

theorem acquire_so_script (n : Nat) (s : State) (bits rest : List Bool) (hl : bits.length = 32)
    (h : s.so = .script (bits ++ rest)) : (acquire n s).so = .script rest := by
  rw [acquire_eq, writeCsN_so,
    shiftIn_so_script n 32 _ bits rest hl (by simp [selected, h, deviceOnSelect])]
  rfl

theorem acqLevels_dev (n : Nat) (s : State) (f : Frame) (m : Nat) (h : s.so = .dev f m)
    (hp : s.pincfg = ⟨true, true, true⟩) (hc : s.csN = true) :
    acqLevels n s = (List.range 32).map fun j => f.getLsbD (31 - j) := by
  rw [acqLevels, loopLevels_dev n 32 (selected n s) f 0 (by omega) _ (by simpa [selected]) (by simp [selected])]
  · simp
  · simp [selected, h, deviceOnSelect, State.selectWire, hp, hc]

end Sys2Proof.Machine
end

