-- ==== Sys2Proof/Laws/Finish.lean ====
section
/-! SUPPORT. What the tails of the read commands, the guard and INIT do to each field: their spec lemmas. -/

namespace Sys2Proof.Machine

variable (n : Nat) (s : State)

/-! ### The tails of the read commands -/

@[simp] theorem finishTc_pincfg : (finishTc s).pincfg = s.pincfg := by simp only [finishTc]; split <;> simp
@[simp] theorem finishInt_pincfg : (finishInt s).pincfg = s.pincfg := by simp only [finishInt]; split <;> simp
@[simp] theorem finishTc_csN : (finishTc s).csN = s.csN := by simp only [finishTc]; split <;> simp
@[simp] theorem finishInt_csN : (finishInt s).csN = s.csN := by simp only [finishInt]; split <;> simp
@[simp] theorem finishTc_sck : (finishTc s).sck = s.sck := by simp only [finishTc]; split <;> simp
@[simp] theorem finishInt_sck : (finishInt s).sck = s.sck := by simp only [finishInt]; split <;> simp
@[simp] theorem finishTc_ph : (finishTc s).ph = s.ph := by simp only [finishTc]; split <;> simp
@[simp] theorem finishInt_ph : (finishInt s).ph = s.ph := by simp only [finishInt]; split <;> simp
@[simp] theorem finishTc_bitcnt : (finishTc s).bitcnt = s.bitcnt := by simp only [finishTc]; split <;> simp
@[simp] theorem finishInt_bitcnt : (finishInt s).bitcnt = s.bitcnt := by simp only [finishInt]; split <;> simp
@[simp] theorem finishTc_dly : (finishTc s).dly = s.dly := by simp only [finishTc]; split <;> simp
@[simp] theorem finishInt_dly : (finishInt s).dly = s.dly := by simp only [finishInt]; split <;> simp
@[simp] theorem finishTc_shreg : (finishTc s).shreg = s.shreg := by simp only [finishTc]; split <;> simp
@[simp] theorem finishInt_shreg : (finishInt s).shreg = s.shreg := by simp only [finishInt]; split <;> simp
@[simp] theorem finishTc_opsel : (finishTc s).opsel = s.opsel := by simp only [finishTc]; split <;> simp
@[simp] theorem finishInt_opsel : (finishInt s).opsel = s.opsel := by simp only [finishInt]; split <;> simp
@[simp] theorem finishTc_host : (finishTc s).host = s.host := by simp only [finishTc]; split <;> simp
@[simp] theorem finishInt_host : (finishInt s).host = s.host := by simp only [finishInt]; split <;> simp
@[simp] theorem finishTc_script : (finishTc s).script = s.script := by simp only [finishTc]; split <;> simp
@[simp] theorem finishInt_script : (finishInt s).script = s.script := by simp only [finishInt]; split <;> simp
@[simp] theorem finishTc_so : (finishTc s).so = s.so := by simp only [finishTc]; split <;> simp
@[simp] theorem finishInt_so : (finishInt s).so = s.so := by simp only [finishInt]; split <;> simp
@[simp] theorem finishTc_temp : (finishTc s).temp = s.temp := by simp only [finishTc]; split <;> simp
@[simp] theorem finishInt_temp : (finishInt s).temp = s.temp := by simp only [finishInt]; split <;> simp
@[simp] theorem finishTc_ftemp : (finishTc s).ftemp = s.ftemp := by simp only [finishTc]; split <;> simp
@[simp] theorem finishInt_ftemp : (finishInt s).ftemp = s.ftemp := by simp only [finishInt]; split <;> simp
@[simp] theorem finishTc_errSeen : (finishTc s).errSeen = s.errSeen := by simp only [finishTc]; split <;> simp
@[simp] theorem finishInt_errSeen : (finishInt s).errSeen = s.errSeen := by simp only [finishInt]; split <;> simp
@[simp] theorem finishTc_label : (finishTc s).label = s.label := by simp only [finishTc]; split <;> simp
@[simp] theorem finishInt_label : (finishInt s).label = s.label := by simp only [finishInt]; split <;> simp
@[simp] theorem finishTc_trace : (finishTc s).trace = s.trace := by simp only [finishTc]; split <;> simp
@[simp] theorem finishInt_trace : (finishInt s).trace = s.trace := by simp only [finishInt]; split <;> simp
@[simp] theorem finishTc_ticks : (finishTc s).ticks = s.ticks := by simp only [finishTc]; split <;> simp
@[simp] theorem finishInt_ticks : (finishInt s).ticks = s.ticks := by simp only [finishInt]; split <;> simp
@[simp] theorem finishTc_moves : (finishTc s).moves = s.moves := by simp only [finishTc]; split <;> simp
@[simp] theorem finishTc_draws : (finishTc s).draws = s.draws := by simp only [finishTc]; split <;> simp
@[simp] theorem finishInt_moves : (finishInt s).moves = s.moves := by simp only [finishInt]; split <;> simp
@[simp] theorem finishInt_draws : (finishInt s).draws = s.draws := by simp only [finishInt]; split <;> simp
@[simp] theorem finishTc_status : (finishTc s).status = classifyFrame s.shreg := by
  simp only [finishTc]; split <;> simp
@[simp] theorem finishInt_status : (finishInt s).status = classifyFrame s.shreg := by
  simp only [finishInt]; split <;> simp
@[simp] theorem finishTc_clsOut : (finishTc s).clsOut = classifyFrame s.shreg := by
  simp only [finishTc]; split <;> simp
@[simp] theorem finishInt_clsOut : (finishInt s).clsOut = classifyFrame s.shreg := by
  simp only [finishInt]; split <;> simp
@[simp] theorem finishTc_done : (finishTc s).done = true := by simp only [finishTc]; split <;> simp
@[simp] theorem finishInt_done : (finishInt s).done = true := by simp only [finishInt]; split <;> simp

/-- RD_TC delivers a value if and only if the frame classifies NONE (43_read_commands.md R122, R123). -/
theorem finishTc_ok : (finishTc s).ok = (classifyFrame s.shreg == .none) := by
  simp only [finishTc]; split <;> simp_all
theorem finishTc_data :
    (finishTc s).data = if classifyFrame s.shreg = .none then tc14 (tcCount s.shreg) else 0 := by
  simp only [finishTc]; split <;> simp_all
theorem finishTc_extOut :
    (finishTc s).extOut = if classifyFrame s.shreg = .none then tcCount s.shreg else s.extOut := by
  simp only [finishTc]; split <;> simp_all

/-- RD_INT delivers a value unless the frame classifies READ_ERROR (43_read_commands.md R126, R127). -/
theorem finishInt_ok : (finishInt s).ok = (classifyFrame s.shreg != .readError) := by
  simp only [finishInt]; split <;> simp_all
theorem finishInt_data :
    (finishInt s).data = if classifyFrame s.shreg = .readError then 0 else tc14 (intCount s.shreg) := by
  simp only [finishInt]; split <;> simp_all
theorem finishInt_extOut :
    (finishInt s).extOut = if classifyFrame s.shreg = .readError then s.extOut else intCount s.shreg := by
  simp only [finishInt]; split <;> simp_all

/-- What both tails deliver is what 43_read_commands.md says of the class and the frame. -/
theorem finish_eq_respond (b : Bool) :
    (if b then finishInt s else finishTc s).ok = (readResult b (classifyFrame s.shreg) s.shreg).isSome ∧
    (if b then finishInt s else finishTc s).data =
      ((readResult b (classifyFrame s.shreg) s.shreg).map tc14).getD 0 := by
  cases b
  · simp only [Bool.false_eq_true, if_false, finishTc_ok, finishTc_data, readResult]; split <;> simp_all
  · simp only [if_true, finishInt_ok, finishInt_data, readResult]; split <;> simp_all

/-! ### The commands -/

theorem refuseRead_eq :
    refuseRead s = { s with done := true, ok := false, data := 0, ticks := s.ticks + 1 } := rfl

theorem readTc_refused (h : s.status = .notInitialized) : readTc n s = refuseRead s := if_pos h
theorem readInt_refused (h : s.status = .notInitialized) : readInt n s = refuseRead s := if_pos h
theorem readTc_ready (h : s.status ≠ .notInitialized) :
    readTc n s = finishTc (acquire n { s with opsel := false }) := if_neg h
theorem readInt_ready (h : s.status ≠ .notInitialized) :
    readInt n s = finishInt (acquire n { s with opsel := true }) := if_neg h

/-- The frame an acquisition takes does not depend on OPSEL (41_acquire.md R90). -/
theorem acquire_opsel_irrelevant (b : Bool) :
    acquire n { s with opsel := b } = { acquire n s with opsel := b } := by
  have h : ∀ k (t : State), shiftIn n k { t with opsel := b } = { shiftIn n k t with opsel := b } := by
    intro k
    induction k with
    | zero => intro t; rfl
    | succ k ih => intro t; exact ih (bitCycle n k t)
  rw [acquire_eq, acquire_eq, show selected n { s with opsel := b } = { selected n s with opsel := b } from rfl, h]
  generalize shiftIn n 32 (selected n s) = y
  rfl

/-- INIT whole (40_init.md R75). -/
theorem initBlock_eq :
    initBlock s = { s with
      pincfg := ⟨true, true, true⟩, csN := true, sck := false, status := .none,
      done := true, ok := true, data := 0,
      so := seenByDevice s { s with pincfg := ⟨true, true, true⟩, csN := true, sck := false }, ticks := s.ticks + 1,
      trace := .clock false :: .select true :: .pinMode .so false :: .pinMode .csN true ::
        .pinMode .sck true :: s.trace } := rfl

/-- Where the block drives its wires and select is high already, INIT changes nothing at the device. -/
theorem initBlock_so_driven (hp : s.pincfg = ⟨true, true, true⟩) (hc : s.csN = true) :
    (initBlock s).so = s.so := by
  have h : (initBlock s).so = deviceOnClock s.selectWire s.clockWire false s.so :=
    seenByDevice_select_still s _ (by simp [State.selectWire, hp, hc])
  rw [h]
  cases s.so <;> simp [deviceOnClock, State.selectWire, hp, hc]

/-- A status computed from a frame is never NOT_INITIALIZED (42_interpret.md R110). -/
theorem classifyFrame_ne_notInitialized (f : Frame) : classifyFrame f ≠ .notInitialized := by
  simp only [classifyFrame]
  generalize rsv17 f = a, rsv3 f = b, faultFlag f = c, scv f = d, scg f = e, oc f = g
  revert a b c d e g
  decide

end Sys2Proof.Machine
end

