-- ==== Sys2Proof/Laws/Operands.lean ====
section
/-! SUPPORT. The operands of a frame as arithmetic, their ranges, and the way to and from the port `data`. -/

namespace Sys2Proof.Machine

theorem tcMag_toNat (f : Frame) : (tcMag f).toNat = f.toNat / 2 ^ 18 % 2 ^ 13 := by
  simp [tcMag, BitVec.extractLsb'_toNat, Nat.shiftRight_eq_div_pow]

theorem intMag_toNat (f : Frame) : (intMag f).toNat = f.toNat / 2 ^ 4 % 2 ^ 11 := by
  simp [intMag, BitVec.extractLsb'_toNat, Nat.shiftRight_eq_div_pow]

/-- A count that fits 14 bits comes back from `data` (30_encoding.md R68). -/
theorem tc14_toInt (z : Int) (h : -8192 ≤ z) (h' : z ≤ 8191) : (tc14 z).toInt = z := by
  unfold tc14
  rw [BitVec.toInt_ofInt]
  simp [Int.bmod]
  omega

/-- The thermocouple operand from its 14 bits. -/
theorem tcCount_eq_of_field (f : Frame) (v : BitVec 14) (h : f.extractLsb' 18 14 = v) :
    tcCount f = signMag (v.getLsbD 13) (v.toNat % 2 ^ 13) := by
  subst h
  rw [tcCount, tcMag_toNat]
  congr 1
  · simp [tcSign]
  · simp [BitVec.extractLsb'_toNat, Nat.shiftRight_eq_div_pow]

/-- The internal operand from its 12 bits. -/
theorem intCount_eq_of_field (f : Frame) (v : BitVec 12) (h : f.extractLsb' 4 12 = v) :
    intCount f = signMag (v.getLsbD 11) (v.toNat % 2 ^ 11) := by
  subst h
  rw [intCount, intMag_toNat]
  congr 1
  · simp [intSign]
  · simp [BitVec.extractLsb'_toNat, Nat.shiftRight_eq_div_pow]

/-- A frame presented on so, most significant bit first, is the frame acquired (41_acquire.md R90). -/
theorem acquire_shreg_of_frame (n : Nat) (s : State) (f : Frame) (rest : List Bool)
    (h : s.so = .script ((List.range 32).map (fun k => f.getLsbD (31 - k)) ++ rest)) :
    (acquire n s).shreg = f := by
  apply BitVec.eq_of_getLsbD_eq
  intro i hi
  rw [acquire_shreg, acqLevels_script n s _ rest (by simp) h]
  have h1 : 31 - (31 - i) = i := by omega
  have h2 : 31 - i < 32 := by omega
  simp [hi, h2, h1, List.getD]

end Sys2Proof.Machine
end

