-- ==== Sys2Proof/Laws/PerInstr.lean ====
section
/-! SUPPORT. A statement about every row as syntax: a row has a code on `cmd` exactly if it is well formed as a
command (30_encoding.md R65, R71, R74). -/

namespace Sys2Proof.Laws.Coding

/-- The row has a code exactly if it is of format C, and no other row has the same code. -/
def Statement (i : Instr) : Prop :=
  (encode i).isSome = i.wellFormed ∧ ∀ c, encode i = some c → decodeCmd c = i

theorem init : Statement .init := ⟨rfl, by decide⟩
theorem rdTc : Statement .rdTc := ⟨rfl, by decide⟩
theorem rdInt : Statement .rdInt := ⟨rfl, by decide⟩
theorem reserved00 : Statement .reserved00 := ⟨rfl, by decide⟩
theorem acq : Statement .acq := ⟨rfl, by decide⟩
theorem classify : Statement .classify := ⟨rfl, by decide⟩
theorem extTc : Statement .extTc := ⟨rfl, by decide⟩
theorem extInt : Statement .extInt := ⟨rfl, by decide⟩
theorem rdTcC : Statement .rdTcC := ⟨rfl, by decide⟩
theorem rdIntC : Statement .rdIntC := ⟨rfl, by decide⟩
theorem rdTcF : Statement .rdTcF := ⟨rfl, by decide⟩
theorem rdIntF : Statement .rdIntF := ⟨rfl, by decide⟩
theorem getErr : Statement .getErr := ⟨rfl, by decide⟩
theorem getErrstr : Statement .getErrstr := ⟨rfl, by decide⟩
theorem celsiusTc : Statement .celsiusTc := ⟨rfl, by decide⟩
theorem celsiusInt : Statement .celsiusInt := ⟨rfl, by decide⟩
theorem cToF : Statement .cToF := ⟨rfl, by decide⟩

end Sys2Proof.Laws.Coding
end

