-- ==== Sys2Proof/Laws/Sequencer.lean ====
section
/-! SUPPORT. The sequencer: what one tick can do, and what N ticks of a settle delay and the event after it do. -/

namespace Sys2Proof.Machine

theorem seqTicks_add (n a b : Nat) (s : State) : seqTicks n (a + b) s = seqTicks n b (seqTicks n a s) := by
  induction a generalizing s with
  | zero => simp [seqTicks]
  | succ a ih => rw [Nat.succ_add, seqTicks, ih, seqTicks]

theorem seqTicks_succ (n k : Nat) (s : State) : seqTicks n (k + 1) s = seqTick n (seqTicks n k s) := by
  rw [seqTicks_add]; rfl

/-- Everything one tick without an accepted command can do (41_acquire.md R86 to R89, 43_read_commands.md R134). -/
theorem seqTick_cases (n : Nat) (s : State) :
    (s.ph = .idle ∧ seqTick n s = idleTick s) ∨
    (s.ph = .sel ∧ s.dly ≠ 0 ∧ seqTick n s = waitTick { s with done := false }) ∨
    (s.ph = .sel ∧ s.dly = 0 ∧ seqTick n s = riseTick n 31 { s with done := false }) ∨
    (s.ph = .hi ∧ s.dly ≠ 0 ∧ seqTick n s = waitTick s) ∨
    (s.ph = .hi ∧ s.dly = 0 ∧ seqTick n s = fallTick n s) ∨
    (s.ph = .lo ∧ s.dly ≠ 0 ∧ seqTick n s = waitTick s) ∨
    (s.ph = .lo ∧ s.dly = 0 ∧ s.bitcnt ≠ 0 ∧
      seqTick n s = riseTick n (s.bitcnt.toNat - 1) { s with bitcnt := s.bitcnt - 1 }) ∨
    (s.ph = .lo ∧ s.dly = 0 ∧ s.bitcnt = 0 ∧ seqTick n s = completeTick s) := by
  cases hp : s.ph <;> by_cases hd : s.dly = 0 <;> by_cases hb : s.bitcnt = 0#5 <;>
    simp [seqTick, selTick, hiTick, loTick, hp, hd, hb]

/-! ### The next-state function, case by case (43_read_commands.md R134) -/

theorem tick_reset (n : Nat) (v : Bool) (c : BitVec 2) (s : State) : tick n true v c s = resetTick s := rfl

theorem tick_busy (n : Nat) (v : Bool) (c : BitVec 2) (s : State) (h : s.ph ≠ .idle) :
    tick n false v c s = seqTick n s := by
  rw [tick, if_neg (by decide), if_neg h]

theorem tick_quiet (n : Nat) (c : BitVec 2) (s : State) (h : s.ph = .idle) :
    tick n false false c s = idleTick s := by
  rw [tick, if_neg (by decide), if_pos h, if_neg (by decide)]

theorem tick_accept (n : Nat) (c : BitVec 2) (s : State) (h : s.ph = .idle) :
    tick n false true c s = acceptTick n c s := by
  rw [tick, if_neg (by decide), if_pos h, if_pos rfl]

theorem acceptTick_init (n : Nat) (s : State) : acceptTick n 0b01#2 s = initBlock s := rfl
theorem acceptTick_rdTc (n : Nat) (s : State) : acceptTick n 0b10#2 s = beginRead n false s := rfl
theorem acceptTick_rdInt (n : Nat) (s : State) : acceptTick n 0b11#2 s = beginRead n true s := rfl
theorem acceptTick_reserved (n : Nat) (s : State) : acceptTick n 0b00#2 s = idleTick s := rfl

/-- Inside a settle delay only DLY runs (70_reset_and_hazards.md R192). -/
theorem seqTick_wait (n : Nat) (s : State) (hp : s.ph ≠ .idle) (hd : s.dly ≠ 0) (hf : s.done = false) :
    seqTick n s = { s with dly := s.dly - 1, ticks := s.ticks + 1 } := by
  cases h : s.ph <;> simp [seqTick, selTick, hiTick, loTick, h, hd, hf, waitTick, countTick] at hp ⊢

theorem seqTicks_wait (n j : Nat) (s : State) (hp : s.ph ≠ .idle) (hj : j ≤ s.dly) (hf : s.done = false) :
    seqTicks n j s = { s with dly := s.dly - j, ticks := s.ticks + j } := by
  induction j generalizing s with
  | zero => rfl
  | succ j ih =>
    rw [seqTicks, seqTick_wait n s hp (by omega) hf, ih]
    · ext <;> simp <;> omega
    · exact hp
    · simp only; omega
    · exact hf

/-- A delay that has begun and run for `n` ticks is followed by the tick `n` itself. -/
theorem seqTicks_delay (n : Nat) (p : Phase) (x : State) (hn : 1 ≤ n) (hp : p ≠ .idle) (hf : x.done = false) :
    seqTicks n n { startDelay n x with ph := p } =
      seqTick n { startDelay n x with ph := p, dly := 0, ticks := x.ticks + (n - 1) } := by
  obtain ⟨m, rfl⟩ : ∃ m, n = m + 1 := ⟨n - 1, by omega⟩
  rw [seqTicks_succ, seqTicks_wait]
  · simp [startDelay]
  · exact hp
  · simp [startDelay]
  · exact hf

/-- The delay of phase HI and the falling edge after it. -/
theorem fall_after_delay (n : Nat) (x : State) (hn : 1 ≤ n) (hf : x.done = false) :
    seqTicks n n { startDelay n x with ph := .hi } =
      { startDelay n (writeSck false (delay n x)) with ph := .lo } := by
  rw [seqTicks_delay n .hi x hn (by decide) hf]
  obtain ⟨m, rfl⟩ : ∃ m, n = m + 1 := ⟨n - 1, by omega⟩
  rfl

/-- The delay of phase SEL and the first sample after it. -/
theorem first_rise_after_delay (n : Nat) (x : State) (hn : 1 ≤ n) (hf : x.done = false) :
    seqTicks n n { startDelay n x with ph := .sel } =
      { startDelay n (writeSck true (sampleInto 31 (delay n x))) with ph := .hi } := by
  rw [seqTicks_delay n .sel x hn (by decide) hf]
  obtain ⟨m, rfl⟩ : ∃ m, n = m + 1 := ⟨n - 1, by omega⟩
  simp only [seqTick, selTick, ne_eq, not_true_eq_false, if_false]
  rw [← hf]
  rfl

/-- The delay of phase LO and the sample of the next bit after it. -/
theorem rise_after_delay (n i : Nat) (x : State) (hn : 1 ≤ n) (hf : x.done = false) (hi : i < 31)
    (hb : x.bitcnt = BitVec.ofNat 5 (i + 1)) :
    seqTicks n n { startDelay n x with ph := .lo } =
      { startDelay n (writeSck true (sampleInto i { delay n x with bitcnt := BitVec.ofNat 5 i })) with ph := .hi } := by
  rw [seqTicks_delay n .lo x hn (by decide) hf]
  obtain ⟨m, rfl⟩ : ∃ m, n = m + 1 := ⟨n - 1, by omega⟩
  have h0 : x.bitcnt ≠ 0 := by
    rw [hb]; intro h; have := congrArg BitVec.toNat h; simp at this; omega
  have h1 : x.bitcnt.toNat - 1 = i := by rw [hb]; simp; omega
  have h2 : x.bitcnt - 1 = BitVec.ofNat 5 i := by
    rw [hb]; apply BitVec.eq_of_toNat_eq; simp [BitVec.toNat_sub]; omega
  simp only [seqTick, loTick, ne_eq, not_true_eq_false, if_false, startDelay, h0, not_false_eq_true, if_true, h1, h2]
  rfl

/-- The delay of phase LO after the last bit and the completion after it. -/
theorem complete_after_delay (n : Nat) (x : State) (hn : 1 ≤ n) (hf : x.done = false) (hb : x.bitcnt = 0) :
    seqTicks n n { startDelay n x with ph := .lo } =
      (if x.opsel then finishInt { writeCsN true (delay n x) with ph := .idle }
       else finishTc { writeCsN true (delay n x) with ph := .idle }) := by
  rw [seqTicks_delay n .lo x hn (by decide) hf]
  obtain ⟨m, rfl⟩ : ∃ m, n = m + 1 := ⟨n - 1, by omega⟩
  have h0 : (¬x.bitcnt = 0) = False := by simp [hb]
  simp only [seqTick, loTick, startDelay, ne_eq, not_true_eq_false, if_false, h0]
  rfl

/-- The state after the falling edge of bit `i`, before its delay. -/
def lowEdge (n i : Nat) (s : State) : State :=
  writeSck false (delay n (writeSck true (accumulate i { s with bitcnt := BitVec.ofNat 5 i })))

theorem bitCycle_eq (n i : Nat) (s : State) : bitCycle n i s = delay n (lowEdge n i s) := rfl

theorem sampleInto_eq_accumulate (i : Nat) (s : State) (hi : i < 32) (h : s.shreg.getLsbD i = false) :
    sampleInto i s = accumulate i s := by
  simp only [sampleInto, accumulate]
  rw [assignBit_eq_setIfHigh _ _ _ hi h]

/-- 2N ticks are one iteration of the loop of ACQ. -/
theorem cycle_ticks (n i : Nat) (x : State) (hn : 1 ≤ n) (hf : x.done = false) (hi : i < 31)
    (hb : x.bitcnt = BitVec.ofNat 5 (i + 1)) (hz : x.shreg.getLsbD i = false) :
    seqTicks n (2 * n) { startDelay n x with ph := .lo } =
      { startDelay n (lowEdge n i (delay n x)) with ph := .lo } := by
  rw [Nat.two_mul, seqTicks_add, rise_after_delay n i x hn hf hi hb, fall_after_delay n _ hn (by simpa),
    sampleInto_eq_accumulate i _ (by omega) (by simpa)]
  rfl

/-- The first 2N ticks after the select delay has begun are the first iteration. -/
theorem first_cycle_ticks (n : Nat) (x : State) (hn : 1 ≤ n) (hf : x.done = false)
    (hb : x.bitcnt = 31) (hz : x.shreg.getLsbD 31 = false) :
    seqTicks n (2 * n) { startDelay n x with ph := .sel } =
      { startDelay n (lowEdge n 31 (delay n x)) with ph := .lo } := by
  rw [Nat.two_mul, seqTicks_add, first_rise_after_delay n x hn hf, fall_after_delay n _ hn (by simpa),
    sampleInto_eq_accumulate 31 _ (by omega) (by simpa)]
  have h : ({ delay n x with bitcnt := BitVec.ofNat 5 31 } : State) = delay n x := by
    have : (BitVec.ofNat 5 31) = x.bitcnt := by rw [hb]; rfl
    rw [this]; rfl
  simp only [lowEdge, h]

/-- The remaining iterations: with BITCNT = k, 2N k ticks are `shiftIn` for the bits below `k`. -/
theorem loop_ticks (n k : Nat) (x : State) (hn : 1 ≤ n) (hk : k ≤ 31) (hf : x.done = false)
    (hb : x.bitcnt = BitVec.ofNat 5 k) (hz : ∀ i, i < k → x.shreg.getLsbD i = false) :
    ∃ y, seqTicks n (2 * n * k) { startDelay n x with ph := .lo } = { startDelay n y with ph := .lo } ∧
      delay n y = shiftIn n k (delay n x) ∧ y.bitcnt = 0 ∧ y.done = false ∧ y.opsel = x.opsel := by
  induction k generalizing x with
  | zero => exact ⟨x, rfl, rfl, hb, hf, rfl⟩
  | succ k ih =>
    obtain ⟨y, h1, h2, h3, h4, h5⟩ := ih (lowEdge n k (delay n x)) (by omega) (by simp [lowEdge, hf])
      (by simp [lowEdge]) (by
        intro i hi
        simp only [lowEdge, writeSck_shreg, delay_shreg, accumulate_shreg]
        rw [getLsbD_setIfHigh _ _ _ _ (by omega)]
        simp [hz i (by omega), Nat.ne_of_lt hi])
    refine ⟨y, ?_, ?_, h3, h4, by simpa [lowEdge] using h5⟩
    · rw [Nat.mul_succ, Nat.add_comm, seqTicks_add, cycle_ticks n k x hn hf (by omega) hb (hz k (by omega)), h1]
    · rw [h2, shiftIn, bitCycle_eq]

end Sys2Proof.Machine
end

