-- ==== Sys2Proof/Laws/Schedule.lean ====
section
/-! SUPPORT. Where the sequencer stands at every tick of an acquisition: after `n * q` ticks from the start tick the
q-th settle delay after the first begins (41_acquire.md R92). -/

namespace Sys2Proof.Machine

/-- The phase in which the q-th settle delay runs. -/
def phaseOf (q : Nat) : Phase := if q = 0 then .sel else if q % 2 = 1 then .hi else .lo

/-- The state in which the q-th settle delay begins. -/
theorem acquisition_epoch (n : Nat) (b : Bool) (s : State) (hn : 1 ≤ n) (q : Nat) (hq : q ≤ 64) :
    ∃ X : State, seqTicks n (n * q) (startAcq n b s) = { startDelay n X with ph := phaseOf q } ∧
      X.done = false ∧ X.csN = false ∧ X.bitcnt = BitVec.ofNat 5 (31 - (q - 1) / 2) ∧
      (q ≠ 0 → X.sck = decide (phaseOf q = .hi)) ∧ (q = 0 → X.sck = s.sck) := by
  induction q with
  | zero =>
    exact ⟨writeCsN false { idleTick s with opsel := b, shreg := 0, bitcnt := 31 }, rfl, rfl, rfl, rfl,
      fun h => absurd rfl h, fun _ => rfl⟩
  | succ q ih =>
    obtain ⟨X, h1, h2, h3, h4, -, -⟩ := ih (by omega)
    rw [Nat.mul_succ, seqTicks_add, h1]
    by_cases hz : q = 0
    · subst hz
      exact ⟨_, first_rise_after_delay n X hn h2, by simpa, by simpa, by simpa using h4, by simp [phaseOf],
        by simp⟩
    · by_cases ho : q % 2 = 1
      · have e : phaseOf q = .hi := by simp [phaseOf, hz, ho]
        have e2 : phaseOf (q + 1) = .lo := by simp [phaseOf]; omega
        rw [e, e2]
        refine ⟨_, fall_after_delay n X hn h2, by simpa, by simpa, ?_, by simp, by simp⟩
        have : 31 - (q + 1 - 1) / 2 = 31 - (q - 1) / 2 := by omega
        rw [this]; simpa using h4
      · have e : phaseOf q = .lo := by simp [phaseOf, hz, ho]
        have e2 : phaseOf (q + 1) = .hi := by simp [phaseOf]; omega
        rw [e, e2]
        have hi : 31 - (q - 1) / 2 = (31 - (q + 1 - 1) / 2) + 1 := by omega
        rw [hi] at h4
        exact ⟨_, rise_after_delay n (31 - (q + 1 - 1) / 2) X hn h2 (by omega) h4, by simpa, by simpa, by simp,
          by simp, by simp⟩

/-- The state `r` ticks into the q-th settle delay. -/
theorem acquisition_at (n : Nat) (b : Bool) (s : State) (hn : 1 ≤ n) (q r : Nat) (hr : r < n) (X : State)
    (h : seqTicks n (n * q) (startAcq n b s) = { startDelay n X with ph := phaseOf q }) (hd : X.done = false) :
    seqTicks n (n * q + r) (startAcq n b s) =
      { startDelay n X with ph := phaseOf q, dly := n - 1 - r, ticks := X.ticks + r } := by
  rw [seqTicks_add, h, seqTicks_wait]
  · rfl
  · simp only [phaseOf]; split; decide; split <;> decide
  · simp [startDelay]; omega
  · exact hd

end Sys2Proof.Machine
end

