-- ==== Sys2Proof/Laws/Step.lean ====
section
/-! SUPPORT. The step: everything it can do. -/

namespace Sys2Proof.Machine

/-- Everything a row can do that answers a next state: its meaning, row by row (log entries 10 to 13). -/
theorem exec_cases (i : Instr) (s t : State) (h : exec i s = .next t) :
    (i = .init ∧ t = offer initBlock s) ∨
    (i = .rdTc ∧ t = offer (readTc Config.nSettle) s) ∨
    (i = .rdInt ∧ t = offer (readInt Config.nSettle) s) ∨
    (i = .reserved00 ∧ t = offer idleTick s) ∨
    (i = .acq ∧ s.status ≠ .notInitialized ∧ t = offer (acquire Config.nSettle) s) ∨
    (i = .classify ∧ t = runClassify s) ∨
    (i = .extTc ∧ t = runExtTc s) ∨
    (i = .extInt ∧ t = runExtInt s) ∨
    (i = .rdTcC ∧ t = offer (fun u => runCelsius tcLsb (readTc Config.nSettle u)) s) ∨
    (i = .rdIntC ∧ t = offer (fun u => runCelsius intLsb (readInt Config.nSettle u)) s) ∨
    (i = .rdTcF ∧ t = offer (fun u => runFahrenheit (runCelsius tcLsb (readTc Config.nSettle u))) s) ∨
    (i = .rdIntF ∧ t = offer (fun u => runFahrenheit (runCelsius intLsb (readInt Config.nSettle u))) s) ∨
    (i = .getErr ∧ t = { s with errSeen := s.status }) ∨
    (i = .getErrstr ∧ t = { s with label := s.status.label }) ∨
    (i = .celsiusTc ∧ t = runCelsius tcLsb s) ∨
    (i = .celsiusInt ∧ t = runCelsius intLsb s) ∨
    (i = .cToF ∧ t = runFahrenheit s) := by
  cases i
  case acq =>
    simp only [exec, execAcq] at h
    split at h
    · cases h
    · cases h; simp_all
  all_goals (cases h; simp)

/-- Everything a step can do that answers a next state. -/
theorem step_cases (s t : State) (h : step s = .next t) :
    (∃ r v c, s.host = .clock r v c ∧ t = nextAct (tick Config.nSettle r v c s)) ∨
    (∃ c u, s.host = .issue c ∧ exec (decodeCmd c) s = .next u ∧
      t = if waits (decodeCmd c) s then u else nextAct u) ∨
    (∃ i u, s.host = .call i ∧ i.format = .p ∧ exec i s = .next u ∧ t = if waits i s then u else nextAct u) ∨
    (∃ l, s.host = .attach l ∧ t = nextAct { s with so := l }) := by
  unfold step at h
  split at h
  next r v c e => cases h; exact .inl ⟨r, v, c, e, rfl⟩
  next c e =>
    refine .inr (.inl ⟨c, ?_⟩)
    cases hx : exec (decodeCmd c) s <;> rw [hx] at h <;> cases h
    exact ⟨_, e, rfl, rfl⟩
  next i e =>
    refine .inr (.inr (.inl ⟨i, ?_⟩))
    split at h
    next w =>
      cases hx : exec i s <;> rw [hx] at h <;> cases h
      exact ⟨_, e, by simpa [HostAct.wellFormed] using w, rfl, rfl⟩
    next => cases h
  next l e => cases h; exact .inr (.inr (.inr ⟨l, e, rfl⟩))

/-- The host's going on changes nothing but its own acts, the draws, and the undriven wires with what the device
sees of them. -/
theorem nextAct_eq (s : State) : ∃ a as d, nextAct s = { s with
    host := a, script := as, so := seenByDevice s { s with moves := s.moves + 1 }, draws := d,
    moves := s.moves + 1 } := by
  unfold nextAct takeAct
  split
  next a as _ => exact ⟨a, as, s.draws, rfl⟩
  next h => exact ⟨_, [], s.draws + 1, by rw [moveWires_eq] at h ⊢; rw [← h]⟩

/-- With driven wires the host's going on changes nothing at the device. -/
theorem nextAct_so_driven (s : State) (hp : s.pincfg = ⟨true, true, true⟩) : (nextAct s).so = s.so := by
  obtain ⟨a, as, d, e⟩ := nextAct_eq s
  rw [e]
  show seenByDevice s { s with moves := s.moves + 1 } = s.so
  rw [seenByDevice_clock_still _ _ (by simp [State.clockWire, hp])]
  cases s.so <;> simp [deviceOnSelect, State.selectWire, hp]

end Sys2Proof.Machine
end

