-- ==== Sys2Proof/Tests/Slice0.lean ====
section
/-! SUPPORT. Small tests, their expected results from 95_test_vectors.md and the encodings of 30_encoding.md, and a
witness for the hypotheses of every statement that has some. -/

open Sys2Proof Sys2Proof.Machine

namespace Sys2Proof.Tests

/-! ## Helpers -/

/-- An initialized, idle block. -/
def ready : State := { State.reset with status := .none, pincfg := ⟨true, true, true⟩ }

/-- A block in phase `p` of an acquisition. -/
def busy (p : Phase) (d : Nat) (k : BitVec 5) : State :=
  { ready with csN := false, sck := p == .hi, ph := p, dly := d, bitcnt := k, shreg := 0x00101900 }

/-- A ready block with the reference device on its pins. -/
def facing (f : Frame) : State := { ready with so := .dev f 0 }

/-- A ready block whose frame register holds `f`. -/
def holding (f : Frame) : State := { ready with shreg := f }

/-- A ready block whose response shows the count `z`. -/
def showing (z : Int) : State := { ready with ok := true, data := tc14 z }

/-- A ready block with these samples to come on so. -/
def scripted (bits : List Bool) : State := { ready with so := .script bits }

/-- The next state, if the outcome is one. -/
def result (o : Host.Outcome State Fault Refusal) : Option State :=
  match o with
  | .next s => some s
  | .fault _ => none
  | .refused _ => none

/-- A frame as the samples of 30_encoding.md R72, most significant bit first. -/
def samplesOf (f : Frame) : List Bool := (List.range 32).map fun k => f.getLsbD (31 - k)

/-! ## Well-formedness, decoding, encoding -/

/-- 30_encoding.md R74: a micro-operation has no code. -/
theorem test_acq_is_no_command : Instr.wellFormed .acq = false := by decide
/-- 30_encoding.md R71: a host-side row has no code of its own. -/
theorem test_rdTcC_is_no_command : Instr.wellFormed .rdTcC = false := by decide
theorem test_init_is_a_command : Instr.wellFormed .init = true := by decide
theorem test_call_of_acq_is_ill_formed : HostAct.wellFormed (.call .acq) = false := by decide
theorem test_call_of_init_is_ill_formed : HostAct.wellFormed (.call .init) = false := by decide
theorem test_call_of_acq_is_refused :
    step { ready with host := .call .acq } = .refused .notIssuable := by rfl
/-- 20_memory.md R52: pin 7 is used twice. -/
theorem test_shared_pin_is_refused : PinBinding.admitted [⟨5, 6, 7⟩, ⟨7, 8, 9⟩] = false := by decide
theorem test_step_on_shared_pins_is_refused :
    stepBlock 0 [⟨⟨5, 6, 7⟩, State.reset⟩, ⟨⟨7, 8, 9⟩, ready⟩] = .refused .sharedPins := by rfl
theorem test_own_pins_are_admitted : PinBinding.admitted [⟨5, 6, 7⟩, ⟨8, 9, 10⟩] = true := by decide
/-- 30_encoding.md R66: a host never offers 00. -/
theorem test_program_with_00_is_not_admitted : admittedProgram [.issue 0b01, .issue 0b00] = false := by decide

/-- 30_encoding.md R65, the word 01, cmd[1] = 0 and cmd[0] = 1. -/
theorem test_word_01 : decodeTableWord 2 0b01 = some .init := by decide
theorem test_word_10 : decodeTableWord 2 0b10 = some .rdTc := by decide
theorem test_word_11 : decodeTableWord 2 0b11 = some .rdInt := by decide
theorem test_word_00 : decodeTableWord 2 0b00 = some .reserved00 := by decide
theorem test_word_100_is_rejected : decode 0b100 = .error .notTwoBits := by rfl
theorem test_encode_rd_int : encode .rdInt = some 0b11#2 := by decide
theorem test_classify_has_no_code : encode .classify = none := by decide
/-- Port status shows 4 for READ_ERROR (30_encoding.md R63). -/
theorem test_status_code_read_error : Status.readError.code = 0b100#3 := by decide

/-! ## One step from reset and after -/

/-- A word offered is what the next step runs: INIT from reset (95_test_vectors.md section 7). -/
theorem test_step_init_from_reset :
    (result (step (State.reset.withFetchWord 2 0b01))).map (fun t => (t.status, t.pincfg.code, t.done, t.ok)) =
      some (.none, 0b111#3, true, true) := by decide
/-- The next-state table of 95_test_vectors.md section 7: INIT drops the count on data. -/
theorem test_init_drops_the_count :
    (result (exec .init (showing 4))).map (fun t => (t.status, t.ok, t.data)) = some (.none, true, 0) := by decide
/-- RD_TC before INIT touches no pin (95_test_vectors.md S1, P1). -/
theorem test_rd_tc_before_init :
    (result (step (State.reset.withFetchWord 2 0b10))).map (fun t => (t.status, t.ok, t.trace)) =
      some (.notInitialized, false, []) := by decide
/-- 95_test_vectors.md section 5, frame 00101900: count 4. -/
theorem test_rd_tc_good_frame :
    (result (exec .rdTc (facing 0x00101900))).map (fun t => (t.status, t.ok, t.data)) =
      some (.none, true, 0x0004) := by decide +kernel
/-- 95_test_vectors.md section 5, frame 00111901: no value, OPEN_CIRCUIT. -/
theorem test_rd_tc_open_circuit :
    (result (exec .rdTc (facing 0x00111901))).map (fun t => (t.status, t.ok, t.data)) =
      some (.openCircuit, false, 0) := by decide +kernel
/-- 95_test_vectors.md section 5, frame 80119902: -400 with GND_SHORT, ok and err together. -/
theorem test_rd_int_with_wiring_fault :
    (result (exec .rdInt (facing 0x80119902))).map (fun t => (t.ok, t.err, t.data, t.status.code)) =
      some (true, true, 0x3E70, 2) := by decide +kernel
/-- 95_test_vectors.md P4, scripted samples, frame 8064C190: -1049. -/
theorem test_rd_int_scripted :
    (result (exec .rdInt (scripted (samplesOf 0x8064C190)))).map (fun t => (t.shreg, t.data, t.opsel)) =
      some (0x8064C190, 0x3BE7, true) := by decide +kernel
/-- 43_read_commands.md R132. -/
theorem test_reserved_00_clears_done :
    (result (exec .reserved00 { ready with done := true, ok := true, data := 5 })).map
      (fun t => (t.done, t.ok, t.data, t.trace)) = some (false, true, 5, []) := by decide

/-! ## Micro-operations -/

/-- 95_test_vectors.md S11: only the first sample high gives 80000000. -/
theorem test_acq_first_sample_is_bit_31 :
    (result (exec .acq (scripted (true :: List.replicate 31 false)))).map State.shreg = some 0x80000000 := by
  decide +kernel
/-- 95_test_vectors.md S11: only the last sample high gives 00000001; the frame before is gone. -/
theorem test_acq_last_sample_is_bit_0 :
    (result (exec .acq { scripted (List.replicate 31 false ++ [true]) with shreg := 0xFFFFFFFF })).map State.shreg =
      some 0x00000001 := by decide +kernel
/-- 95_test_vectors.md S3, and S5: open circuit before a short to ground. -/
theorem test_classify_open_without_fault :
    (result (exec .classify (holding 0x00000001))).map State.clsOut = some .readError := by decide
theorem test_classify_open_before_ground :
    (result (exec .classify (holding 0x00010003))).map State.clsOut = some .openCircuit := by decide
/-- 95_test_vectors.md section 4, bit 30 is the top of the magnitude (conflict C1). -/
theorem test_ext_tc_bit_30 :
    (result (exec .extTc (holding 0x40000000))).map State.extOut = some 4096 := by decide
theorem test_ext_tc_minus_one :
    (result (exec .extTc (holding 0x80040000))).map State.extOut = some (-1) := by decide
/-- 95_test_vectors.md section 4, bit 14 is the top of the magnitude (conflict C2). -/
theorem test_ext_int_bit_14 :
    (result (exec .extInt (holding 0x00004000))).map State.extOut = some 1024 := by decide
theorem test_ext_int_negative :
    (result (exec .extInt (holding 0x0064C190))).map State.extOut = some (-1049) := by decide

/-! ## The host-side view -/

/-- 95_test_vectors.md section 6: count -25 is -6.25 degrees, count -1049 is -65.5625 degrees. -/
theorem test_celsius_tc :
    (result (exec .celsiusTc (showing (-25)))).map State.temp = some (.num (-25 / 4)) := by decide +kernel
theorem test_celsius_int :
    (result (exec .celsiusInt (showing (-1049)))).map State.temp = some (.num (-1049 / 16)) := by decide +kernel
/-- 95_test_vectors.md S7: 1.0 C is 33.8 F, NaN stays NaN. -/
theorem test_c_to_f :
    (result (exec .cToF { ready with temp := .num 1 })).map State.temp = some (.num (169 / 5)) := by decide +kernel
theorem test_c_to_f_nan : (result (exec .cToF ready)).map State.temp = some .nan := by decide +kernel
/-- 95_test_vectors.md section 6: RD_TC of 00040000 is 0.25 C and 32.45 F, RD_INT of 00007FF0 is 127.9375 C and
262.2875 F. -/
theorem test_rd_tc_c :
    (result (exec .rdTcC (facing 0x00040000))).map State.temp = some (.num (1 / 4)) := by decide +kernel
theorem test_rd_tc_f :
    (result (exec .rdTcF (facing 0x00040000))).map State.temp = some (.num (649 / 20)) := by decide +kernel
theorem test_rd_int_c :
    (result (exec .rdIntC (facing 0x00007FF0))).map State.temp = some (.num (2047 / 16)) := by decide +kernel
theorem test_rd_int_f :
    (result (exec .rdIntF (facing 0x00007FF0))).map State.temp = some (.num (20983 / 80)) := by decide +kernel
/-- 95_test_vectors.md section 6, a READ_ERROR frame gives no internal temperature. -/
theorem test_rd_int_c_read_error :
    (result (exec .rdIntC (facing 0x00000008))).map State.temp = some .nan := by decide +kernel
/-- 95_test_vectors.md P1 and P2. -/
theorem test_get_err_after_reset :
    (result (exec .getErr State.reset)).map State.errSeen = some .notInitialized := by decide
theorem test_get_errstr :
    (result (exec .getErrstr { ready with status := .openCircuit })).map (fun t => t.label.text) =
      some "ERROR_OPEN_CIRCUIT" := by decide

/-! ## Ticks -/

/-- 95_test_vectors.md trace A (N_SETTLE = 1), tick 0. -/
theorem test_trace_a_tick_0 :
    let t := tick 1 false true 0b10 (facing 0x00101900)
    (t.csN, t.sck, t.ph, t.bitcnt, t.dly, t.done) = (false, false, .sel, 31, 0, false) := by decide
/-- Trace B (N_SETTLE = 2), the tick after tick 1: sample 0, clock high. -/
theorem test_trace_b_tick_2 :
    let t := tick 2 false false 0 (busy .sel 0 31)
    (t.csN, t.sck, t.ph, t.bitcnt, t.dly, t.done) = (false, true, .hi, 31, 1, false) := by decide
/-- Trace A, tick 65: the completion. -/
theorem test_trace_a_tick_65 :
    let t := tick 1 false false 0 (busy .lo 0 0)
    (t.csN, t.ph, t.status, t.done, t.ok, t.data) = (true, .idle, .none, true, true, 0x0004) := by decide
/-- 95_test_vectors.md section 7: reset in the middle of an acquisition. -/
theorem test_reset_when_busy :
    let t := tick 1 true true 0b01 (busy .lo 0 7)
    (t.status, t.pincfg.code, t.csN, t.ph, t.shreg, t.done) =
      (.notInitialized, 0b000#3, true, .idle, 0, false) := by decide

/-- 20_memory.md R46: the clock wire falls while select is low, as the third falling edge. -/
theorem test_device_counts_a_falling_edge :
    (tick 1 false false 0 { busy .hi 0 9 with so := .dev 0 2 }).so = .dev 0 3 := by decide
/-- 20_memory.md R46: at the start tick the select wire falls. -/
theorem test_device_restarts_when_select_falls :
    (tick 1 false true 0b10 { ready with so := .dev 0 5 }).so = .dev 0 0 := by decide

/-! ## Witnesses: hypotheses that are met

One theorem `test_witness_<Name>` per statement `Obligations.<Name>` that has hypotheses. -/

theorem ready_inv (n : Nat) (h : 1 ≤ n) : ready.Inv n :=
  ⟨.inr (by decide), by decide, by decide, by decide, by decide, h, by decide⟩

/-- A block in its last low phase, its delay counter as high as it goes. -/
theorem busy_inv (n : Nat) : (busy .lo n 0).Inv (n + 1) where
  config := .inr (by decide : (busy .lo 0 0).status ≠ .notInitialized ∧ (busy .lo 0 0).pincfg.code = 0b111#3)
  select := (by decide : (busy .lo 0 0).csN = true ↔ (busy .lo 0 0).ph = .idle)
  clock := (by decide : (busy .lo 0 0).sck = true ↔ (busy .lo 0 0).ph = .hi)
  ready := (by decide : (busy .lo 0 0).ph ≠ .idle → (busy .lo 0 0).status ≠ .notInitialized)
  code := (by decide : (busy .lo 0 0).status.code ≠ 6#3 ∧ (busy .lo 0 0).status.code ≠ 7#3)
  delay := Nat.lt_succ_self n
  data := (by decide : (busy .lo 0 0).ok = false → (busy .lo 0 0).data = 0)

theorem busy_quiet (d : Nat) : (busy .lo d 0).Quiet where
  done := fun _ => rfl
  first := (by decide : (busy .lo 0 0).ph = .sel → (busy .lo 0 0).bitcnt = 31)
  data := (by decide : (busy .lo 0 0).data ≠ 0b10000000000000#14)

theorem reset_inv (n : Nat) (h : 1 ≤ n) : State.reset.Inv n :=
  ⟨.inl (by decide), by decide, by decide, by decide, by decide, h, by decide⟩

theorem nSettle_pos : 1 ≤ Config.nSettle := Nat.succ_le_succ (Nat.zero_le _)

/-- Idle and initialized: the hypotheses of the statements about ACQ and the reads. -/
theorem ready_is_ready : ready.ph = .idle ∧ ready.status ≠ .notInitialized := by decide

theorem test_witness_CommandCodes :
    (0b10#2).getLsbD 1 = true ∧ (0b11#2).getLsbD 1 = true ∧ decodeCmd 0b11#2 = .rdInt ∧ 4 ≤ 4 := by decide
theorem test_witness_DecodeEncodeAgree :
    Instr.wellFormed .reserved00 = true ∧ Instr.wellFormed .cToF = false := by decide
theorem test_witness_StatusCodes : Status.notInitialized.code = 5 ∧ (5#3).toNat < 6 := by decide
theorem test_witness_ErrIsStatusNotNone :
    State.reset.status = .notInitialized ∧ (facing 0).status = ready.status := by decide
theorem test_witness_ResetMeetsInvariants : 1 ≤ 1 := Nat.le_refl 1
theorem test_witness_StepKeepsInvariants :
    State.reset.Inv Config.nSettle ∧ ∃ t, step State.reset = .next t := ⟨reset_inv _ nSettle_pos, _, rfl⟩
theorem test_witness_StepKeepsInvariants_busy :
    (busy .lo Config.settleExtra 0).Inv Config.nSettle ∧ ∃ t, step (busy .lo Config.settleExtra 0) = .next t :=
  ⟨busy_inv _, _, rfl⟩
theorem test_witness_TickKeepsInvariants : 1 ≤ 1 ∧ (busy .lo 0 0).Inv 1 := ⟨Nat.le_refl 1, busy_inv 0⟩
theorem test_witness_StepKeepsCompanions : (busy .lo 0 0).Quiet ∧ ∃ t, step (busy .lo 0 0) = .next t :=
  ⟨busy_quiet 0, _, rfl⟩
theorem test_witness_DelayFitsItsWidth : (busy .lo 4 0).Inv 5 := busy_inv 4
theorem test_witness_StepRunsTheDecodedRow_offered :
    (ready.withFetchWord 2 1).host = .issue 0b01#2 ∧ ∃ t, exec (decodeCmd 0b01#2) (ready.withFetchWord 2 1) = .next t :=
  ⟨rfl, _, rfl⟩
theorem test_witness_StepRunsTheDecodedRow_busy :
    { busy .hi 0 7 with host := .issue 0b01#2 }.host = .issue 0b01#2 ∧
    ∃ t, exec (decodeCmd 0b01#2) { busy .hi 0 7 with host := .issue 0b01#2 } = .next t := ⟨rfl, _, rfl⟩
theorem test_witness_StepRunsTheDecodedRow_called :
    { ready with host := .call .getErr }.host = .call .getErr ∧ Instr.format .getErr = .p ∧
    ∃ t, exec .getErr { ready with host := .call .getErr } = .next t := ⟨rfl, rfl, _, rfl⟩
theorem test_witness_StepRunsTheDecodedRow_word : 3 < 4 := by decide
theorem test_witness_StepOfOtherActs_clock : State.reset.host = .clock false false 0 := rfl
theorem test_witness_StepOfOtherActs_attach :
    { ready with host := .attach (.dev 5 0) }.host = .attach (.dev 5 0) := rfl
theorem test_witness_StepOfOtherActs_call :
    { ready with host := .call .acq }.host = .call .acq ∧ Instr.format .acq ≠ .p := by decide
theorem test_witness_StepNeverStops : State.reset.host.wellFormed = true := by decide
theorem test_witness_LifecycleEdges_into :
    { ready with host := .clock true false 0 }.Inv Config.nSettle ∧
    ∃ t, step { ready with host := .clock true false 0 } = .next t ∧ ready.status ≠ .notInitialized ∧
      t.status = .notInitialized :=
  ⟨⟨.inr (by decide), by decide, by decide, by decide, by decide, nSettle_pos, by decide⟩, _, rfl, by decide, rfl⟩
theorem test_witness_LifecycleEdges_out :
    { State.reset with host := .issue 0b01#2 }.Inv Config.nSettle ∧
    ∃ t, step { State.reset with host := .issue 0b01#2 } = .next t ∧ State.reset.status = .notInitialized ∧
      t.status ≠ .notInitialized :=
  ⟨⟨.inl (by decide), by decide, by decide, by decide, by decide, nSettle_pos, by decide⟩, _, rfl, rfl, by decide⟩
theorem test_witness_BusyBlockAcceptsNothing :
    (busy .sel 0 31).ph ≠ .idle ∧ (issuedCode .rdIntF).isSome = true := by decide
theorem test_witness_InitEffect : State.reset.ph = .idle := rfl
theorem test_witness_InitIdempotent : ready.ph = .idle := rfl
theorem test_witness_ReservedCodeIgnored : { ready with done := true }.ph = .idle := rfl
theorem test_witness_IdleTickClearsDone : { ready with done := true }.ph = .idle := rfl
theorem test_witness_AcquisitionEffect :
    ready.ph = .idle ∧ ready.status ≠ .notInitialized ∧ 0 < 32 ∧ 31 < 32 := by decide
theorem test_witness_AcquisitionEventCounts : ready.ph = .idle ∧ ready.status ≠ .notInitialized := by decide
theorem test_witness_FrameIsTheSamples :
    (scripted (samplesOf 0x8064C190 ++ [true])).ph = .idle ∧
    (scripted (samplesOf 0x8064C190 ++ [true])).status ≠ .notInitialized ∧ (samplesOf 0x8064C190).length = 32 ∧
    (scripted (samplesOf 0x8064C190 ++ [true])).so = .script (samplesOf 0x8064C190 ++ [true]) ∧
    Instr.rdInt ∈ [Instr.acq, Instr.rdTc, Instr.rdInt] ∧ 31 < 32 := ⟨rfl, by decide, rfl, rfl, by decide, by decide⟩
theorem test_witness_ShiftRegisterForm :
    (scripted (samplesOf 1 ++ [])).ph = .idle ∧ (scripted (samplesOf 1 ++ [])).status ≠ .notInitialized ∧
    (samplesOf 1).length = 32 ∧ (scripted (samplesOf 1 ++ [])).so = .script (samplesOf 1 ++ []) :=
  ⟨rfl, by decide, rfl, rfl⟩
theorem test_witness_ReferenceDeviceFrame :
    (facing 0x00101900).Inv Config.nSettle ∧ (facing 0x00101900).ph = .idle ∧
    (facing 0x00101900).status ≠ .notInitialized ∧ (facing 0x00101900).so = .dev 0x00101900 0 ∧ 1 ≤ 1 ∧
    (0b11#2 = 0b10#2 ∨ 0b11#2 = 0b11#2) :=
  ⟨⟨.inr (by decide), by decide, by decide, by decide, by decide, nSettle_pos, by decide⟩, rfl, by decide, rfl,
    Nat.le_refl 1, by decide⟩
theorem test_witness_AcquisitionNeedsInit : State.reset.status = .notInitialized := rfl
theorem test_witness_FrameIndependentOfRegisters :
    (facing 3).ph = .idle ∧ { facing 3 with shreg := 7, ok := true }.ph = .idle ∧
    (facing 3).status ≠ .notInitialized ∧ { facing 3 with shreg := 7, ok := true }.status ≠ .notInitialized ∧
    (facing 3).pincfg = ⟨true, true, true⟩ ∧ { facing 3 with shreg := 7, ok := true }.pincfg = ⟨true, true, true⟩ ∧
    (facing 3).csN = { facing 3 with shreg := 7, ok := true }.csN ∧
    (facing 3).so = { facing 3 with shreg := 7, ok := true }.so ∧
    (facing 3).draws = { facing 3 with shreg := 7, ok := true }.draws := by decide
/-- Neither wire moves; select falls; the clock falls while select is low; select high throughout. -/
theorem test_witness_DeviceFollowsTheWires :
    (busy .hi 1 9).selectWire = false ∧ (tick 1 false false 0 (busy .hi 1 9)).clockWire = (busy .hi 1 9).clockWire ∧
    (facing 3).so = .dev 3 0 ∧ (facing 3).selectWire = true ∧ (tick 1 false true 0b11 (facing 3)).selectWire = false ∧
    (busy .hi 0 9).clockWire = true ∧ (tick 1 false false 0 (busy .hi 0 9)).clockWire = false ∧
    (tick 1 false false 0 (busy .hi 0 9)).selectWire = false ∧
    (tick 1 false false 0 (facing 3)).selectWire = true ∧ 31 ≤ 31 := by decide
/-- Both wires move at once: an INIT that raises select and lowers the clock. -/
theorem test_witness_DeviceFollowsTheWires_both :
    { ready with csN := false, sck := true }.selectWire = false ∧
    (tick 1 false true 0b01 { ready with csN := false, sck := true }).selectWire = true ∧
    { ready with csN := false, sck := true }.clockWire = true ∧
    (tick 1 false true 0b01 { ready with csN := false, sck := true }).clockWire = false := by decide
theorem test_witness_StartTick :
    ready.ph = .idle ∧ ready.status ≠ .notInitialized ∧ (0b11#2 = 0b10#2 ∨ 0b11#2 = 0b11#2) := by decide
theorem test_witness_SelectPhaseTick :
    (busy .sel 0 31).ph = .sel ∧ (busy .sel 0 31).dly = 0 ∧ (busy .sel 1 31).ph = .sel ∧ (busy .sel 1 31).dly ≠ 0 ∧
    30 < 31 := by decide
theorem test_witness_HighPhaseTick :
    (busy .hi 0 9).ph = .hi ∧ (busy .hi 0 9).dly = 0 ∧ (busy .hi 1 9).ph = .hi ∧ (busy .hi 1 9).dly ≠ 0 := by decide
theorem test_witness_LowPhaseTick :
    (busy .lo 0 1).ph = .lo ∧ (busy .lo 0 1).dly = 0 ∧ (busy .lo 0 1).bitcnt ≠ 0 ∧ (busy .lo 1 1).ph = .lo ∧
    (busy .lo 1 1).dly ≠ 0 ∧ 31 < 32 ∧ 31 ≠ (busy .lo 0 1).bitcnt.toNat - 1 := by decide
theorem test_witness_CompletionTick :
    (busy .lo 0 0).ph = .lo ∧ (busy .lo 0 0).dly = 0 ∧ (busy .lo 0 0).bitcnt = 0 ∧ (busy .lo 0 0).opsel = false ∧
    classifyFrame (busy .lo 0 0).shreg = .none := by decide
theorem test_witness_CompletionTick_no_value :
    { busy .lo 0 0 with opsel := true, shreg := 0x00000008 }.opsel = true ∧
    classifyFrame { busy .lo 0 0 with opsel := true, shreg := 0x00000008 }.shreg = .readError := by decide
theorem test_witness_AcquisitionSchedule :
    ready.Inv 2 ∧ ready.ph = .idle ∧ ready.status ≠ .notInitialized ∧ (0b10#2 = 0b10#2 ∨ 0b10#2 = 0b11#2) :=
  ⟨ready_inv 2 (by decide), by decide⟩
/-- Sample 31, the last falling edge, and a tick of the schedule with no pin event, for N_SETTLE = 2. -/
theorem test_witness_AcquisitionSchedule_ticks :
    (125 + 1 = 2 * (2 * 31 + 1)) ∧ (127 + 1 = 2 * (2 * 31 + 2)) ∧ (129 + 1 = 65 * 2) ∧ 128 + 1 ≠ 65 * 2 ∧
    (∀ k, k ≤ 31 → 128 + 1 ≠ 2 * (2 * k + 1) ∧ 128 + 1 ≠ 2 * (2 * k + 2)) :=
  ⟨by decide, by decide, by decide, by decide, by omega⟩
theorem test_witness_LevelsAgree : 1 ≤ 2 ∧ ready.ph = .idle ∧ ready.status ≠ .notInitialized := by decide
theorem test_witness_OneTickCommandsAgree :
    State.reset.ph = .idle ∧ State.reset.status = .notInitialized := by decide
theorem test_witness_AcquisitionAlwaysEnds : 1 ≤ 3 ∧ (busy .lo 2 0).Inv 3 ∧ (busy .lo 2 0).Quiet :=
  ⟨by decide, busy_inv 2, busy_quiet 2⟩
/-- One frame for each of the seven arms, in their order (95_test_vectors.md section 3). -/
theorem test_witness_ClassifyArms :
    (0x00000008#32).getLsbD 3 = true ∧ (0x00000001#32).getLsbD 16 = false ∧ (0x00000001#32).getLsbD 0 = true ∧
    (0x00010000#32).getLsbD 16 = true ∧ (0x00010001#32).getLsbD 0 = true ∧ (0x00010006#32).getLsbD 1 = true ∧
    (0x00010006#32).getLsbD 0 = false ∧ (0x00010004#32).getLsbD 2 = true ∧ (0x00010004#32).getLsbD 1 = false ∧
    (0x00101900#32).getLsbD 16 = false := by decide
theorem test_witness_ClassifyReadsSixBits :
    ∀ i ∈ [17, 16, 3, 2, 1, 0], (0x00000000#32).getLsbD i = (0xFFFCFFF0#32).getLsbD i := by decide
theorem test_witness_ExtTcRange : (-8191 : Int) ≤ -8191 ∧ (-8191 : Int) ≤ 8191 ∧ (-8191 : Int) ≠ 0 := by decide
theorem test_witness_ExtIntRange : (-2047 : Int) ≤ 2047 ∧ (2047 : Int) ≤ 2047 ∧ (2047 : Int) ≠ 0 := by decide
theorem test_witness_ReadGuard : State.reset.ph = .idle ∧ State.reset.status = .notInitialized := by decide
/-- The frames 00101900 and 00131901 give both cases of both reads. -/
theorem test_witness_RdTcEffect : ready.ph = .idle ∧ ready.status ≠ .notInitialized := by decide
theorem test_witness_RdIntEffect : ready.ph = .idle ∧ ready.status ≠ .notInitialized := by decide
theorem test_witness_ReadsDeliverTheFrame :
    (scripted (samplesOf 0x00111901 ++ [])).ph = .idle ∧
    (scripted (samplesOf 0x00111901 ++ [])).status ≠ .notInitialized ∧
    (scripted (samplesOf 0x00111901 ++ [])).so =
      .script ((List.range 32).map (fun k => (0x00111901 : Frame).getLsbD (31 - k)) ++ []) :=
  ⟨rfl, by decide, rfl⟩
theorem test_witness_ReadsForgetThePast :
    (facing 3).ph = .idle ∧ { facing 3 with status := .readError }.ph = .idle ∧
    (facing 3).status ≠ .notInitialized ∧ { facing 3 with status := .readError }.status ≠ .notInitialized ∧
    (facing 3).pincfg = ⟨true, true, true⟩ ∧ { facing 3 with status := .readError }.pincfg = ⟨true, true, true⟩ ∧
    (facing 3).csN = { facing 3 with status := .readError }.csN ∧
    (facing 3).so = { facing 3 with status := .readError }.so ∧
    (facing 3).draws = { facing 3 with status := .readError }.draws ∧ Instr.rdInt ∈ [Instr.rdTc, Instr.rdInt] := by
  decide
theorem test_witness_StuckDataLine :
    (scripted (List.replicate 32 true ++ [])).ph = .idle ∧
    (scripted (List.replicate 32 true ++ [])).status ≠ .notInitialized ∧
    (scripted (List.replicate 32 true ++ [])).so = .script (List.replicate 32 true ++ []) ∧
    Instr.rdTc ∈ [Instr.rdTc, Instr.rdInt] := ⟨rfl, by decide, rfl, by decide⟩
theorem test_witness_StuckDataLine_low :
    (scripted (List.replicate 32 false ++ [])).so = .script (List.replicate 32 false ++ []) := rfl
theorem test_witness_CommandDurations :
    ready.ph = .idle ∧ ready.status ≠ .notInitialized ∧ State.reset.ph = .idle ∧
    State.reset.status = .notInitialized ∧ Instr.rdInt ∈ [Instr.rdTc, Instr.rdInt] := by decide
theorem test_witness_FloatCelsiusIsExact : Instr.celsiusInt ∈ [Instr.celsiusTc, Instr.celsiusInt] := by decide
theorem test_witness_FahrenheitEffect :
    State.reset.temp = .nan ∧ State.reset.ftemp = .nan ∧ { ready with temp := .num 1 }.temp = .num 1 ∧
    { ready with ftemp := .num 1 false }.ftemp = .num 1 false := ⟨rfl, rfl, rfl, rfl⟩
theorem test_witness_PseudoReadsExpand : ready.ph = .idle := rfl
theorem test_witness_FahrenheitOfTheFrame :
    (scripted (samplesOf 0x80100000 ++ [])).ph = .idle ∧
    (scripted (samplesOf 0x80100000 ++ [])).status ≠ .notInitialized ∧
    (scripted (samplesOf 0x80100000 ++ [])).so =
      .script ((List.range 32).map (fun k => (0x80100000 : Frame).getLsbD (31 - k)) ++ []) :=
  ⟨rfl, by decide, rfl⟩
theorem test_witness_ErrorAccessors : Label.text .errorRead = Label.text .errorRead := rfl
theorem test_witness_UninitializedGetters :
    State.reset.ph = .idle ∧ State.reset.status = .notInitialized ∧
    Instr.rdIntF ∈ [Instr.rdTcC, Instr.rdIntC, Instr.rdTcF, Instr.rdIntF] := by decide
theorem test_witness_BlocksAreIndependent :
    (∃ cs, stepBlock 1 [⟨⟨0, 1, 2⟩, State.reset⟩, ⟨⟨3, 4, 5⟩, ready⟩] = .next cs) ∧ 0 ≠ 1 ∧
    [Block.mk ⟨0, 1, 2⟩ State.reset, ⟨⟨3, 4, 5⟩, ready⟩][1]? = some ⟨⟨3, 4, 5⟩, ready⟩ ∧
    systemAdmitted [⟨⟨0, 1, 2⟩, State.reset⟩, ⟨⟨3, 4, 5⟩, ready⟩] = true ∧ ∃ t, step ready = .next t :=
  ⟨⟨_, rfl⟩, by decide, rfl, by decide, _, rfl⟩
theorem test_witness_SharedPinsRefused :
    ∃ p, p ∈ [(Block.mk ⟨5, 6, 7⟩ ready).pins.clockPin, 6, 7] ∧
      p ∈ [(Block.mk ⟨7, 8, 9⟩ ready).pins.clockPin, 8, 9] := ⟨7, by decide⟩

end Sys2Proof.Tests
end

section
/-! The flag `err` as a function of the register STATUS (10_state.md R25). -/

namespace Sys2Proof.Machine

variable {s t : State}

@[simp] theorem State.err_eq_true_iff : s.err = true ↔ s.status ≠ .none := bne_iff_ne

theorem State.err_of_notInitialized (h : s.status = .notInitialized) : s.err = true := by
  have hne : s.status ≠ .none := by rw [h]; decide
  exact State.err_eq_true_iff.2 hne

theorem State.err_congr (h : t.status = s.status) : t.err = s.err := by
  rw [Bool.eq_iff_iff, State.err_eq_true_iff, State.err_eq_true_iff, h]

end Sys2Proof.Machine

namespace Sys2Proof.Proofs

open Sys2Proof.Machine

/-- Settles O6: what `err` says of STATUS gives both the value in NOT_INITIALIZED and the dependence on STATUS
alone. -/
theorem errIsStatusNotNone : Obligations.ErrIsStatusNotNone := by
  intro s
  exact ⟨State.err_eq_true_iff, State.err_of_notInitialized, fun _ => State.err_congr⟩

end Sys2Proof.Proofs
end

section
/-! The 3-bit codes of STATUS (30_encoding.md R63), read back. -/

namespace Sys2Proof.Machine

/-- The status a code stands for, in R63's order. The codes 6 and 7, which are no status's (R64), are read as
NOT_INITIALIZED; no lemma below speaks of them. -/
def Status.ofCode (c : BitVec 3) : Status :=
  match c.toNat with
  | 0 => .none
  | 1 => .openCircuit
  | 2 => .gndShort
  | 3 => .vccShort
  | 4 => .readError
  | _ => .notInitialized

@[simp] theorem Status.ofCode_code (a : Status) : Status.ofCode a.code = a := by
  cases a <;> rfl

theorem Status.code_ofCode : ∀ c : BitVec 3, c.toNat < 6 → (Status.ofCode c).code = c := by decide

theorem Status.code_injective : Function.Injective Status.code :=
  Function.LeftInverse.injective Status.ofCode_code

theorem Status.code_toNat_lt (a : Status) : a.code.toNat < 6 := by
  cases a <;> decide

theorem Status.exists_code_eq_iff (c : BitVec 3) : (∃ a : Status, a.code = c) ↔ c.toNat < 6 := by
  constructor
  · rintro ⟨a, rfl⟩
    exact a.code_toNat_lt
  · exact fun hc => ⟨Status.ofCode c, Status.code_ofCode c hc⟩

end Sys2Proof.Machine

namespace Sys2Proof.Proofs

open Sys2Proof.Machine

/-- Settles O3: the six values by definition; reading a code back inverts `Status.code`, so the codes are exactly
those below 6 and no two statuses share one. -/
theorem statusCodes : Obligations.StatusCodes :=
  ⟨rfl, rfl, rfl, rfl, rfl, rfl, Status.exists_code_eq_iff, fun _ _ h => Status.code_injective h⟩

end Sys2Proof.Proofs
end

section
/-! INIT from an idle block (40_init.md R75, R76): what it writes, and that a second one writes nothing new. -/

namespace Sys2Proof.Machine

variable (s : State)

/-- An idle block takes what is offered to it (10_state.md R29). -/
theorem offer_idle (f : State → State) (h : s.ph = .idle) : offer f s = f s := if_pos h

@[simp] theorem initBlock_status : (initBlock s).status = .none := rfl
@[simp] theorem initBlock_pincfg : (initBlock s).pincfg = ⟨true, true, true⟩ := rfl
@[simp] theorem initBlock_csN : (initBlock s).csN = true := rfl
@[simp] theorem initBlock_sck : (initBlock s).sck = false := rfl
@[simp] theorem initBlock_ph : (initBlock s).ph = s.ph := rfl
@[simp] theorem initBlock_draws : (initBlock s).draws = s.draws := rfl

theorem exec_init_idle (h : s.ph = .idle) : exec .init s = .next (initBlock s) :=
  congrArg Host.Outcome.next (offer_idle s initBlock h)

/-- Each register INIT writes, it writes with a constant; the others it keeps. -/
theorem initBlock_twice_sameRegisters : SameRegisters (initBlock s) (initBlock (initBlock s)) := by
  constructor <;> rfl

end Sys2Proof.Machine

namespace Sys2Proof.Proofs

open Sys2Proof.Machine

/-- Settles O18: INIT leaves the block idle, so it is accepted again, and its second run writes the same constants. -/
theorem initIdempotent : Obligations.InitIdempotent := by
  intro s hidle
  have hidle' : (initBlock s).ph = .idle := by rw [initBlock_ph, hidle]
  have hcode : (initBlock s).pincfg.code = 0b111#3 := by rw [initBlock_pincfg]; decide
  exact ⟨initBlock s, initBlock (initBlock s), exec_init_idle s hidle, exec_init_idle _ hidle', hcode,
    initBlock_csN s, initBlock_sck s, initBlock_status s, initBlock_draws s, initBlock_twice_sameRegisters s⟩

end Sys2Proof.Proofs
end

section
/-! The lifecycle of a block (40_init.md R77): which steps carry STATUS into or out of NOT_INITIALIZED. -/

namespace Sys2Proof.Machine

/-- Between `s` and `t` STATUS neither enters nor leaves NOT_INITIALIZED. -/
def SameLifecycle (s t : State) : Prop := t.status = .notInitialized ↔ s.status = .notInitialized

/-- The block accepts an INIT at the coming step (10_state.md R29, 30_encoding.md R65). -/
def State.AcceptsInit (s : State) : Prop :=
  s.rst = false ∧ s.cmdValid = true ∧ s.cmd = 0b01#2 ∧ s.cmdReady = true

variable {s t u : State}

theorem SameLifecycle.of_status_eq (h : t.status = s.status) : SameLifecycle s t := by rw [SameLifecycle, h]

theorem SameLifecycle.of_ne (hs : s.status ≠ .notInitialized) (ht : t.status ≠ .notInitialized) :
    SameLifecycle s t := iff_of_false ht hs

theorem SameLifecycle.trans (hst : SameLifecycle s t) (htu : SameLifecycle t u) : SameLifecycle s u :=
  Iff.trans htu hst

/-! ### STATUS after each operation -/

@[simp] theorem waitTick_status (s : State) : (waitTick s).status = s.status := rfl
@[simp] theorem riseTick_status (n i : Nat) (s : State) : (riseTick n i s).status = s.status := rfl
@[simp] theorem fallTick_status (n : Nat) (s : State) : (fallTick n s).status = s.status := rfl
@[simp] theorem refuseRead_status (s : State) : (refuseRead s).status = s.status := rfl
@[simp] theorem startAcq_status (n : Nat) (b : Bool) (s : State) : (startAcq n b s).status = s.status := rfl
@[simp] theorem runCelsius_status (lsb : Rat) (s : State) : (runCelsius lsb s).status = s.status := rfl
@[simp] theorem runFahrenheit_status (s : State) : (runFahrenheit s).status = s.status := rfl
@[simp] theorem resetTick_status (s : State) : (resetTick s).status = .notInitialized := rfl

@[simp] theorem beginRead_status (n : Nat) (b : Bool) (s : State) : (beginRead n b s).status = s.status := by
  unfold beginRead
  split <;> simp

@[simp] theorem nextAct_status (s : State) : (nextAct s).status = s.status := by
  obtain ⟨a, as, d, h⟩ := nextAct_eq s
  rw [h]

/-- Whether an offer stands or the host goes on is nothing to STATUS. -/
theorem ite_nextAct_status (w : Bool) (s : State) : (if w then s else nextAct s).status = s.status := by
  cases w <;> simp

/-- The completion tick records a class, and no class is NOT_INITIALIZED (42_interpret.md R110). -/
theorem completeTick_status_ne (s : State) : (completeTick s).status ≠ .notInitialized := by
  simp only [completeTick]
  split <;> simp [classifyFrame_ne_notInitialized]

/-! ### What leaves the lifecycle alone -/

/-- The ticks of an acquisition keep STATUS until the last one, which writes a class over a STATUS that the guard
found initialized (10_state.md R34 (d)). -/
theorem seqTick_sameLifecycle (n : Nat) (hready : s.ph ≠ .idle → s.status ≠ .notInitialized) :
    SameLifecycle s (seqTick n s) := by
  obtain ⟨-, e⟩ | ⟨-, -, e⟩ | ⟨-, -, e⟩ | ⟨-, -, e⟩ | ⟨-, -, e⟩ | ⟨-, -, e⟩ | ⟨-, -, -, e⟩ | ⟨hlo, -, -, e⟩ :=
    seqTick_cases n s
  pick_goal 8
  · rw [e]
    exact .of_ne (hready (by simp [hlo])) (completeTick_status_ne s)
  all_goals exact .of_status_eq (by simp [e])

/-- A read refused by the guard keeps STATUS; one that runs starts initialized and ends with a class. -/
theorem readTc_sameLifecycle (n : Nat) (s : State) : SameLifecycle s (readTc n s) := by
  by_cases h : s.status = .notInitialized
  · exact .of_status_eq (by rw [readTc_refused n s h, refuseRead_status])
  · exact .of_ne h (by simp [readTc_ready n s h, classifyFrame_ne_notInitialized])

@[inherit_doc readTc_sameLifecycle]
theorem readInt_sameLifecycle (n : Nat) (s : State) : SameLifecycle s (readInt n s) := by
  by_cases h : s.status = .notInitialized
  · exact .of_status_eq (by rw [readInt_refused n s h, refuseRead_status])
  · exact .of_ne h (by simp [readInt_ready n s h, classifyFrame_ne_notInitialized])

theorem runCelsius_sameLifecycle (lsb : Rat) (s : State) : SameLifecycle s (runCelsius lsb s) := .of_status_eq rfl
theorem runFahrenheit_sameLifecycle (s : State) : SameLifecycle s (runFahrenheit s) := .of_status_eq rfl

/-- An offer is the operation in an idle block and a tick of the acquisition in a busy one. -/
theorem offer_sameLifecycle {f : State → State} (hready : s.ph ≠ .idle → s.status ≠ .notInitialized)
    (hf : SameLifecycle s (f s)) : SameLifecycle s (offer f s) := by
  unfold offer
  split
  · exact hf
  · exact seqTick_sameLifecycle _ hready

/-! ### The edges -/

/-- Only INIT in an idle block is a row that can carry STATUS over the edge. -/
theorem exec_lifecycle (i : Instr) (hready : s.ph ≠ .idle → s.status ≠ .notInitialized)
    (h : exec i s = .next t) :
    (i = .init ∧ s.ph = .idle ∧ t.status = .none) ∨ SameLifecycle s t := by
  have hTc := readTc_sameLifecycle Config.nSettle s
  have hInt := readInt_sameLifecycle Config.nSettle s
  obtain ⟨rfl, rfl⟩ | ⟨-, rfl⟩ | ⟨-, rfl⟩ | ⟨-, rfl⟩ | ⟨-, -, rfl⟩ | ⟨-, rfl⟩ | ⟨-, rfl⟩ | ⟨-, rfl⟩ |
    ⟨-, rfl⟩ | ⟨-, rfl⟩ | ⟨-, rfl⟩ | ⟨-, rfl⟩ | ⟨-, rfl⟩ | ⟨-, rfl⟩ | ⟨-, rfl⟩ | ⟨-, rfl⟩ | ⟨-, rfl⟩ :=
    exec_cases i s t h
  · by_cases hidle : s.ph = .idle
    · exact .inl ⟨rfl, hidle, by rw [offer_idle s _ hidle, initBlock_status]⟩
    · exact .inr (by rw [offer, if_neg hidle]; exact seqTick_sameLifecycle _ hready)
  · exact .inr (offer_sameLifecycle hready hTc)
  · exact .inr (offer_sameLifecycle hready hInt)
  · exact .inr (offer_sameLifecycle hready (.of_status_eq (idleTick_status s)))
  · exact .inr (offer_sameLifecycle hready (.of_status_eq (acquire_status _ s)))
  · exact .inr (.of_status_eq (runClassify_status s))
  · exact .inr (.of_status_eq (runExtTc_status s))
  · exact .inr (.of_status_eq (runExtInt_status s))
  · exact .inr (offer_sameLifecycle hready (hTc.trans (runCelsius_sameLifecycle _ _)))
  · exact .inr (offer_sameLifecycle hready (hInt.trans (runCelsius_sameLifecycle _ _)))
  · exact .inr (offer_sameLifecycle hready
      ((hTc.trans (runCelsius_sameLifecycle _ _)).trans (runFahrenheit_sameLifecycle _)))
  · exact .inr (offer_sameLifecycle hready
      ((hInt.trans (runCelsius_sameLifecycle _ _)).trans (runFahrenheit_sameLifecycle _)))
  · exact .inr (.of_status_eq rfl)
  · exact .inr (.of_status_eq rfl)
  · exact .inr (runCelsius_sameLifecycle _ s)
  · exact .inr (runCelsius_sameLifecycle _ s)
  · exact .inr (runFahrenheit_sameLifecycle s)

/-- Of the four codes on `cmd`, only INIT's can carry an idle block's STATUS over the edge. -/
theorem acceptTick_lifecycle (n : Nat) (c : BitVec 2) (s : State) :
    (c = 0b01#2 ∧ (acceptTick n c s).status = .none) ∨ SameLifecycle s (acceptTick n c s) := by
  by_cases hc : c = 0b01#2
  · exact .inl ⟨hc, by rw [hc, acceptTick_init, initBlock_status]⟩
  · refine .inr (.of_status_eq ?_)
    unfold acceptTick
    split_ifs <;> simp

/-- One tick: a reset, an accepted INIT, or no edge of the lifecycle. -/
theorem tick_lifecycle (n : Nat) (r v : Bool) (c : BitVec 2)
    (hready : s.ph ≠ .idle → s.status ≠ .notInitialized) :
    (r = true ∧ (tick n r v c s).status = .notInitialized) ∨
    ((r = false ∧ v = true ∧ c = 0b01#2 ∧ s.ph = .idle) ∧ (tick n r v c s).status = .none) ∨
    SameLifecycle s (tick n r v c s) := by
  cases r with
  | true => exact .inl ⟨rfl, resetTick_status s⟩
  | false =>
    refine .inr ?_
    by_cases hidle : s.ph = .idle
    · cases v with
      | false => exact .inr (.of_status_eq (by rw [tick_quiet n c s hidle, idleTick_status]))
      | true =>
        rw [tick_accept n c s hidle]
        exact (acceptTick_lifecycle n c s).imp_left fun ⟨hc, hnone⟩ => ⟨⟨rfl, rfl, hc, hidle⟩, hnone⟩
    · rw [tick_busy n v c s hidle]
      exact .inr (seqTick_sameLifecycle n hready)

theorem decodeCmd_eq_init_iff : ∀ c : BitVec 2, decodeCmd c = .init ↔ c = 0b01#2 := by decide

theorem acceptsInit_of_clock {r v : Bool} {c : BitVec 2} (h : s.host = .clock r v c)
    (hin : r = false ∧ v = true ∧ c = 0b01#2 ∧ s.ph = .idle) : s.AcceptsInit := by
  simpa [State.AcceptsInit, State.rst, State.cmdValid, State.cmd, State.cmdReady, h] using hin

theorem acceptsInit_of_issue (h : s.host = .issue 0b01#2) (hidle : s.ph = .idle) : s.AcceptsInit := by
  simp [State.AcceptsInit, State.rst, State.cmdValid, State.cmd, State.cmdReady, h, hidle]

/-- One step: a reset, an accepted INIT, or no edge of the lifecycle. -/
theorem step_lifecycle (hready : s.ph ≠ .idle → s.status ≠ .notInitialized) (h : step s = .next t) :
    (s.rst = true ∧ t.status = .notInitialized) ∨ (s.AcceptsInit ∧ t.status = .none) ∨ SameLifecycle s t := by
  obtain ⟨r, v, c, hhost, rfl⟩ | ⟨c, u, hhost, hexec, rfl⟩ | ⟨i, u, -, hp, hexec, rfl⟩ | ⟨l, -, rfl⟩ :=
    step_cases s t h
  · rw [SameLifecycle, nextAct_status]
    obtain ⟨hr, hni⟩ | ⟨hin, hnone⟩ | hsame := tick_lifecycle Config.nSettle r v c hready
    · exact .inl ⟨by rw [State.rst, hhost, hr], hni⟩
    · exact .inr (.inl ⟨acceptsInit_of_clock hhost hin, hnone⟩)
    · exact .inr (.inr hsame)
  · rw [SameLifecycle, ite_nextAct_status]
    obtain ⟨hinit, hidle, hnone⟩ | hsame := exec_lifecycle _ hready hexec
    · rw [(decodeCmd_eq_init_iff c).1 hinit] at hhost
      exact .inr (.inl ⟨acceptsInit_of_issue hhost hidle, hnone⟩)
    · exact .inr (.inr hsame)
  · rw [SameLifecycle, ite_nextAct_status]
    obtain ⟨rfl, -, -⟩ | hsame := exec_lifecycle i hready hexec
    · cases hp
    · exact .inr (.inr hsame)
  · exact .inr (.inr (.of_status_eq (nextAct_status _)))

end Sys2Proof.Machine

namespace Sys2Proof.Proofs

open Sys2Proof.Machine

/-- Settles O15: a reset tick ends in NOT_INITIALIZED and an accepted INIT in NONE, so each is one edge, and no other
step crosses either. -/
theorem lifecycleEdges : Obligations.LifecycleEdges := by
  intro s t hinv hstep
  obtain ⟨hrst, ht⟩ | ⟨hinit, ht⟩ | hsame := step_lifecycle hinv.ready hstep
  · exact ⟨fun _ _ => hrst, fun _ hne => absurd ht hne⟩
  · exact ⟨fun _ hni => by simp [ht] at hni, fun _ _ => hinit⟩
  · exact ⟨fun hs hni => absurd (hsame.1 hni) hs, fun hs hne => absurd (hsame.2 hs) hne⟩

end Sys2Proof.Proofs
end

section
/-! The frame of an acquisition whose samples are given (41_acquire.md R90), and the three rows that acquire one. -/

namespace Sys2Proof.Machine

/-- SHREG[31 - k] = b_k for the samples a scripted source presents (41_acquire.md R90). -/
theorem acquire_shreg_script (n : Nat) (s : State) (bits rest : List Bool) (hlen : bits.length = 32)
    (hso : s.so = .script (bits ++ rest)) (k : Nat) (hk : k < 32) :
    (acquire n s).shreg.getLsbD (31 - k) = bits.getD k false := by
  have hbit : 31 - k < 32 := by omega
  have hindex : 31 - (31 - k) = k := by omega
  rw [acquire_shreg, acqLevels_script n s bits rest hlen hso, hindex, decide_eq_true hbit, Bool.true_and]

variable {s : State}

theorem exec_acq_ready (hidle : s.ph = .idle) (hready : s.status ≠ .notInitialized) :
    exec .acq s = .next (acquire Config.nSettle s) := by
  rw [← offer_idle s (acquire Config.nSettle) hidle]
  exact if_neg hready

theorem exec_rdTc_ready (hidle : s.ph = .idle) (hready : s.status ≠ .notInitialized) :
    exec .rdTc s = .next (finishTc (acquire Config.nSettle { s with opsel := false })) := by
  rw [← readTc_ready _ s hready, ← offer_idle s (readTc Config.nSettle) hidle]
  rfl

theorem exec_rdInt_ready (hidle : s.ph = .idle) (hready : s.status ≠ .notInitialized) :
    exec .rdInt s = .next (finishInt (acquire Config.nSettle { s with opsel := true })) := by
  rw [← readInt_ready _ s hready, ← offer_idle s (readInt Config.nSettle) hidle]
  rfl

/-- ACQ and both reads end with the frame and the source of one acquisition, whichever row asked: OPSEL does not
enter into either (41_acquire.md R90). -/
theorem exec_acquires {i : Instr} (hi : i ∈ [Instr.acq, Instr.rdTc, Instr.rdInt]) (hidle : s.ph = .idle)
    (hready : s.status ≠ .notInitialized) :
    ∃ a, exec i s = .next a ∧ a.so = (acquire Config.nSettle s).so ∧
      a.shreg = (acquire Config.nSettle s).shreg := by
  simp only [List.mem_cons, List.not_mem_nil, or_false] at hi
  obtain rfl | rfl | rfl := hi
  · exact ⟨_, exec_acq_ready hidle hready, rfl, rfl⟩
  · refine ⟨_, exec_rdTc_ready hidle hready, ?_, ?_⟩
    · rw [finishTc_so, acquire_opsel_irrelevant]
    · rw [finishTc_shreg, acquire_opsel_irrelevant]
  · refine ⟨_, exec_rdInt_ready hidle hready, ?_, ?_⟩
    · rw [finishInt_so, acquire_opsel_irrelevant]
    · rw [finishInt_shreg, acquire_opsel_irrelevant]

end Sys2Proof.Machine

namespace Sys2Proof.Proofs

open Sys2Proof.Machine

/-- Settles O23: each of the three rows is one acquisition as far as SHREG and the source go, and an acquisition
takes the script's first 32 samples, bit 31 first, whatever the registers held. -/
theorem frameIsTheSamples : Obligations.FrameIsTheSamples := by
  intro s bits rest hidle hready hlen hso i hi
  obtain ⟨a, hexec, hsource, hframe⟩ := exec_acquires hi hidle hready
  refine ⟨a, hexec, ?_, fun k hk => ?_⟩
  · rw [hsource, acquire_so_script _ _ bits rest hlen hso]
  · rw [hframe, acquire_shreg_script _ _ bits rest hlen hso k hk]

end Sys2Proof.Proofs
end

section
/-! The completion tick (41_acquire.md R89): select high first, then the class of the frame and the response. -/

namespace Sys2Proof.Machine

variable (s : State)

/-- What the completion tick has done before it looks at the frame: select high and the sequencer idle. -/
def deselect : State := { writeCsN true (countTick s) with ph := .idle }

theorem completeTick_eq :
    completeTick s = if s.opsel then finishInt (deselect s) else finishTc (deselect s) := rfl

/-- The last bit's clock-low delay has run out, so the acquisition completes. -/
theorem seqTick_complete (n : Nat) (hlo : s.ph = .lo) (hdly : s.dly = 0) (hlast : s.bitcnt = 0) :
    seqTick n s = completeTick s := by
  simp [seqTick, loTick, hlo, hdly, hlast]

@[simp] theorem completeTick_status : (completeTick s).status = classifyFrame s.shreg := by
  rw [completeTick_eq]
  cases s.opsel
  · exact finishTc_status (deselect s)
  · exact finishInt_status (deselect s)

/-- What the completion tick answers is what the read in progress makes of the class and the frame
(43_read_commands.md R120, R124). -/
theorem completeTick_response :
    (completeTick s).ok = (readResult s.opsel (classifyFrame s.shreg) s.shreg).isSome ∧
    (completeTick s).data = ((readResult s.opsel (classifyFrame s.shreg) s.shreg).map tc14).getD 0 :=
  finish_eq_respond (deselect s) s.opsel

theorem completeTick_value {z : Int} (h : readResult s.opsel (classifyFrame s.shreg) s.shreg = some z) :
    (completeTick s).ok = true ∧ (completeTick s).data = tc14 z := by
  simpa [h] using completeTick_response s

theorem completeTick_no_value (h : readResult s.opsel (classifyFrame s.shreg) s.shreg = none) :
    (completeTick s).ok = false ∧ (completeTick s).data = 0 := by
  simpa [h] using completeTick_response s

/-- The registers the completion tick writes, and that it leaves all else; the values of OK and DATA are
`completeTick_response`'s. -/
theorem completeTick_frame :
    completeTick s = { s with
      csN := true, ph := .idle, status := classifyFrame s.shreg, done := true, ok := (completeTick s).ok,
      data := (completeTick s).data, clsOut := (completeTick s).clsOut, extOut := (completeTick s).extOut,
      so := (completeTick s).so, ticks := s.ticks + 1, trace := .select true :: s.trace } := by
  cases hread : s.opsel with
  | false =>
    have htail : completeTick s = finishTc (deselect s) := by rw [completeTick_eq, hread]; rfl
    rw [htail]
    ext <;> simp [deselect, hread]
  | true =>
    have htail : completeTick s = finishInt (deselect s) := by rw [completeTick_eq, hread]; rfl
    rw [htail]
    ext <;> simp [deselect, hread]

end Sys2Proof.Machine

namespace Sys2Proof.Proofs

open Sys2Proof.Machine

/-- Settles O32: the tick is `completeTick`, whose frame gives the state, and the four combinations of OPSEL and
class are the four ways `readResult` decides whether the read has a value. -/
theorem completionTick : Obligations.CompletionTick := by
  intro n v c s hlo hdly hlast
  have hbusy : s.ph ≠ .idle := by rw [hlo]; decide
  have htick : tick n false v c s = completeTick s :=
    (tick_busy n v c s hbusy).trans (seqTick_complete s n hlo hdly hlast)
  refine ⟨completeTick s, htick, completeTick_frame s, ?_⟩
  rw [completeTick_status]
  refine ⟨fun hop hclass => ?_, fun hop hclass => ?_, fun hop hclass => ?_, fun hop hclass => ?_⟩
  · exact completeTick_value s (by simp [readResult, hop, hclass])
  · exact completeTick_value s (by simp [readResult, hop, hclass])
  · exact completeTick_no_value s (by simp [readResult, hop, hclass])
  · exact completeTick_no_value s (by simp [readResult, hop, hclass])

end Sys2Proof.Proofs
end

section
/-! The three micro-operations on SHREG (42_interpret.md): the arms of CLASSIFY, and the two operands by arithmetic. -/

namespace Sys2Proof.Machine

variable {f : Frame}

/-- A reserved bit of the frame is set: the transfer is corrupted (42_interpret.md R101). -/
abbrev ReservedSet (f : Frame) : Prop := rsv17 f = true ∨ rsv3 f = true

/-- One of the three fault sub-bits is set, in the order of 42_interpret.md R100. -/
abbrev CauseSet (f : Frame) : Prop := scv f = true ∨ scg f = true ∨ oc f = true

/-- The decision order of 42_interpret.md R100. -/
theorem classifyFrame_eq (f : Frame) :
    classifyFrame f =
      if ReservedSet f then .readError
      else if CauseSet f ∧ ¬faultFlag f = true then .readError
      else if faultFlag f = true ∧ ¬CauseSet f then .readError
      else if oc f = true then .openCircuit
      else if scg f = true then .gndShort
      else if scv f = true then .vccShort
      else .none := by
  simp [classifyFrame, ReservedSet, CauseSet, or_assoc, and_assoc]

theorem classifyFrame_of_reserved (hrsv : ReservedSet f) : classifyFrame f = .readError := by
  rw [classifyFrame_eq, if_pos hrsv]

/-- A cause without the flag (42_interpret.md R102). -/
theorem classifyFrame_of_cause_without_fault (hrsv : ¬ReservedSet f) (hcause : CauseSet f)
    (hfault : ¬faultFlag f = true) : classifyFrame f = .readError := by
  rw [classifyFrame_eq, if_neg hrsv, if_pos ⟨hcause, hfault⟩]

/-- The flag without a cause (42_interpret.md R103). -/
theorem classifyFrame_of_fault_without_cause (hrsv : ¬ReservedSet f) (hfault : faultFlag f = true)
    (hcause : ¬CauseSet f) : classifyFrame f = .readError := by
  rw [classifyFrame_eq, if_neg hrsv, if_neg fun h => hcause h.1, if_pos ⟨hfault, hcause⟩]

/-- When flag and causes agree, the single sub-bits decide (42_interpret.md R104 to R107). -/
theorem classifyFrame_of_consistent (hrsv : ¬ReservedSet f) (hagree : faultFlag f = true ↔ CauseSet f) :
    classifyFrame f =
      if oc f = true then .openCircuit
      else if scg f = true then .gndShort
      else if scv f = true then .vccShort
      else .none := by
  rw [classifyFrame_eq, if_neg hrsv, if_neg fun h => h.2 (hagree.2 h.1), if_neg fun h => h.2 (hagree.1 h.1)]

theorem classifyFrame_of_oc (hrsv : ¬ReservedSet f) (hfault : faultFlag f = true) (hoc : oc f = true) :
    classifyFrame f = .openCircuit := by
  rw [classifyFrame_of_consistent hrsv (iff_of_true hfault (.inr (.inr hoc))), if_pos hoc]

theorem classifyFrame_of_scg (hrsv : ¬ReservedSet f) (hfault : faultFlag f = true) (hoc : oc f = false)
    (hscg : scg f = true) : classifyFrame f = .gndShort := by
  rw [classifyFrame_of_consistent hrsv (iff_of_true hfault (.inr (.inl hscg))), if_neg (by simp [hoc]), if_pos hscg]

theorem classifyFrame_of_scv (hrsv : ¬ReservedSet f) (hfault : faultFlag f = true) (hoc : oc f = false)
    (hscg : scg f = false) (hscv : scv f = true) : classifyFrame f = .vccShort := by
  rw [classifyFrame_of_consistent hrsv (iff_of_true hfault (.inl hscv)), if_neg (by simp [hoc]),
    if_neg (by simp [hscg]), if_pos hscv]

theorem classifyFrame_of_clean (hrsv : ¬ReservedSet f) (hfault : ¬faultFlag f = true) (hcause : ¬CauseSet f) :
    classifyFrame f = .none := by
  rw [classifyFrame_of_consistent hrsv (iff_of_false hfault hcause), if_neg fun h => hcause (.inr (.inr h)),
    if_neg fun h => hcause (.inr (.inl h)), if_neg fun h => hcause (.inl h)]

/-- EXT_TC by arithmetic on the frame (42_interpret.md R112). -/
theorem tcCount_eq_signMag (f : Frame) :
    tcCount f = signMag (f.getLsbD 31) (f.toNat / 2 ^ 18 % 2 ^ 13) := by
  rw [tcCount, tcMag_toNat, tcSign]

/-- EXT_INT by arithmetic on the frame (42_interpret.md R114). -/
theorem intCount_eq_signMag (f : Frame) :
    intCount f = signMag (f.getLsbD 15) (f.toNat / 2 ^ 4 % 2 ^ 11) := by
  rw [intCount, intMag_toNat, intSign]

theorem exec_classify (s : State) : exec .classify s = .next { s with clsOut := classifyFrame s.shreg } := rfl
theorem exec_extTc (s : State) : exec .extTc s = .next { s with extOut := tcCount s.shreg } := rfl
theorem exec_extInt (s : State) : exec .extInt s = .next { s with extOut := intCount s.shreg } := rfl

end Sys2Proof.Machine

namespace Sys2Proof.Proofs

open Sys2Proof.Machine

/-- Settles O37: the result is `classifyFrame` of SHREG, and each arm is its lemma above. -/
theorem classifyArms : Obligations.ClassifyArms := fun s =>
  ⟨classifyFrame s.shreg, exec_classify s, classifyFrame_of_reserved, classifyFrame_of_cause_without_fault,
    classifyFrame_of_fault_without_cause, classifyFrame_of_oc, classifyFrame_of_scg, classifyFrame_of_scv,
    classifyFrame_of_clean⟩

/-- Settles O39: the operand of SHREG, its magnitude written as a quotient and a remainder. -/
theorem extTcEffect : Obligations.ExtTcEffect := by
  intro s
  rw [exec_extTc, tcCount_eq_signMag, signMag]

/-- Settles O40: the operand of SHREG, its magnitude written as a quotient and a remainder. -/
theorem extIntEffect : Obligations.ExtIntEffect := by
  intro s
  rw [exec_extInt, intCount_eq_signMag, signMag]

end Sys2Proof.Proofs
end

section
/-! The two read commands (43_read_commands.md): the guard, and what a read that acquires answers and leaves
unchanged. -/

namespace Sys2Proof.Machine

/-- The tail of the read that OPSEL = `opsel` names, after the acquisition (43_read_commands.md R120, R124). -/
def finishRead (opsel : Bool) (s : State) : State := if opsel then finishInt s else finishTc s

variable (n : Nat) (s : State)

theorem finishRead_false : finishRead false s = finishTc s := rfl
theorem finishRead_true : finishRead true s = finishInt s := rfl

/-! ### The commands from an idle block -/

theorem exec_rdTc_idle (hidle : s.ph = .idle) : exec .rdTc s = .next (readTc Config.nSettle s) :=
  congrArg Host.Outcome.next (offer_idle s (readTc Config.nSettle) hidle)

theorem exec_rdInt_idle (hidle : s.ph = .idle) : exec .rdInt s = .next (readInt Config.nSettle s) :=
  congrArg Host.Outcome.next (offer_idle s (readInt Config.nSettle) hidle)

/-! ### What a read leaves unchanged -/

theorem acquire_rested (hidle : s.ph = .idle) : Rested s (acquire n s) := by
  constructor <;> simp [hidle]

theorem acquire_sameHost : SameHost s (acquire n s) := by
  constructor <;> simp

variable {s} {a : State}

/-- The tail of a read moves no pin and not the sequencer. -/
theorem Rested.finishRead (h : Rested s a) (b : Bool) : Rested s (finishRead b { a with opsel := b }) := by
  obtain ⟨hpincfg, hcsN, hsck, hph, hbitcnt, hdly⟩ := h
  cases b <;> constructor <;> simp [finishRead_false, finishRead_true, *]

theorem SameHost.finishRead (h : SameHost s a) (b : Bool) : SameHost s (finishRead b { a with opsel := b }) := by
  obtain ⟨hhost, hscript, htemp, hftemp, herrSeen, hlabel⟩ := h
  cases b <;> constructor <;> simp [finishRead_false, finishRead_true, *]

/-- The tail of a read makes no pin event, takes no sample and no tick. -/
theorem finishRead_sameLink (b : Bool) (a : State) : SameLink a (finishRead b { a with opsel := b }) := by
  cases b <;> constructor <;> simp [finishRead_false, finishRead_true]

/-- A read whose acquisition is `a` holds OPSEL, leaves the block rested and the host alone, and goes beyond `a` by
no event, sample or tick. -/
theorem finishRead_frame (b : Bool) (hrested : Rested s a) (hhost : SameHost s a) :
    (finishRead b { a with opsel := b }).opsel = b ∧ Rested s (finishRead b { a with opsel := b }) ∧
    SameHost s (finishRead b { a with opsel := b }) ∧ SameLink a (finishRead b { a with opsel := b }) ∧
    (finishRead b { a with opsel := b }).draws = a.draws := by
  refine ⟨?_, hrested.finishRead b, hhost.finishRead b, finishRead_sameLink b a, ?_⟩
  all_goals cases b <;> simp [finishRead_false, finishRead_true]

/-- Each read of a ready, idle block is its tail after the acquisition that ACQ makes, with OPSEL written. -/
theorem reads_finish_acq (hidle : s.ph = .idle) (hready : s.status ≠ .notInitialized) :
    ∃ a, exec .acq s = .next a ∧ exec .rdTc s = .next (finishTc { a with opsel := false }) ∧
      exec .rdInt s = .next (finishInt { a with opsel := true }) ∧ Rested s a ∧ SameHost s a := by
  refine ⟨acquire Config.nSettle s, exec_acq_ready hidle hready, ?_, ?_, acquire_rested _ s hidle,
    acquire_sameHost _ s⟩
  · rw [exec_rdTc_ready hidle hready, acquire_opsel_irrelevant]
  · rw [exec_rdInt_ready hidle hready, acquire_opsel_irrelevant]

/-! ### What a read answers -/

/-- RD_TC delivers its count when the class is NONE (43_read_commands.md R123). -/
theorem finishTc_value (h : (finishTc s).status = .none) :
    (finishTc s).ok = true ∧ (finishTc s).data = tc14 (tcCount s.shreg) := by
  rw [finishTc_status] at h
  simp [finishTc_ok, finishTc_data, h]

/-- RD_TC delivers nothing on every other class (43_read_commands.md R122). -/
theorem finishTc_no_value (h : (finishTc s).status ≠ .none) : (finishTc s).ok = false ∧ (finishTc s).data = 0 := by
  rw [finishTc_status] at h
  simp [finishTc_ok, finishTc_data, h]

/-- RD_INT delivers its count unless the class is READ_ERROR (43_read_commands.md R127). -/
theorem finishInt_value (h : (finishInt s).status ≠ .readError) :
    (finishInt s).ok = true ∧ (finishInt s).data = tc14 (intCount s.shreg) := by
  rw [finishInt_status] at h
  simp [finishInt_ok, finishInt_data, h]

/-- RD_INT delivers nothing on READ_ERROR (43_read_commands.md R126). -/
theorem finishInt_no_value (h : (finishInt s).status = .readError) :
    (finishInt s).ok = false ∧ (finishInt s).data = 0 := by
  rw [finishInt_status] at h
  simp [finishInt_ok, finishInt_data, h]

/-- The three wiring faults are errors, and none is READ_ERROR. -/
theorem Status.wiringFault_ne :
    ∀ a ∈ [Status.openCircuit, Status.gndShort, Status.vccShort], a ≠ .none ∧ a ≠ .readError := by decide

/-- A wiring fault raises `err` and lets RD_INT answer all the same (43_read_commands.md R127). -/
theorem finishInt_lenient (h : (finishInt s).status ∈ [.openCircuit, .gndShort, .vccShort]) :
    (finishInt s).ok = true ∧ (finishInt s).err = true := by
  obtain ⟨hnone, hread⟩ := Status.wiringFault_ne _ h
  exact ⟨(finishInt_value hread).1, State.err_eq_true_iff.2 hnone⟩

end Sys2Proof.Machine

namespace Sys2Proof.Proofs

open Sys2Proof.Machine

/-- Settles O43: an idle block takes the read, and the guard refuses it before anything is acquired. -/
theorem readGuard : Obligations.ReadGuard := by
  intro s hidle huninit
  rw [exec_rdTc_idle s hidle, exec_rdInt_idle s hidle, readTc_refused _ s huninit, readInt_refused _ s huninit,
    refuseRead_eq]
  exact ⟨rfl, rfl⟩

/-- Settles O44: the read is `finishTc` after the one acquisition; `finishTc` reads the class and the count off its
frame, and `finishRead_frame` says what stays. -/
theorem rdTcEffect : Obligations.RdTcEffect := by
  intro s hidle hready
  obtain ⟨a, hacq, hread, -, hrested, hhost⟩ := reads_finish_acq hidle hready
  exact ⟨a, _, hacq, hread, finishTc_shreg _, finishTc_status _, finishTc_done _, finishTc_value,
    finishTc_no_value, finishRead_frame false hrested hhost⟩

/-- Settles O45: the read is `finishInt` after the one acquisition; `finishInt` reads the class and the count off its
frame, and `finishRead_frame` says what stays. -/
theorem rdIntEffect : Obligations.RdIntEffect := by
  intro s hidle hready
  obtain ⟨a, hacq, -, hread, hrested, hhost⟩ := reads_finish_acq hidle hready
  exact ⟨a, _, hacq, hread, finishInt_shreg _, finishInt_status _, finishInt_done _, finishInt_value,
    finishInt_no_value, finishInt_lenient, finishRead_frame true hrested hhost⟩

end Sys2Proof.Proofs
end

section
/-! The error accessors (44_host_view.md R141, R142): what they return, and the six texts, read back. -/

namespace Sys2Proof.Machine

theorem exec_getErr (s : State) : exec .getErr s = .next { s with errSeen := s.status } := rfl
theorem exec_getErrstr (s : State) : exec .getErrstr s = .next { s with label := s.status.label } := rfl

/-- The label a text is of, if it is one of the six (44_host_view.md R142). -/
def Label.ofText : String → Option Label
  | "ERROR_NONE" => some .errorNone
  | "ERROR_OPEN_CIRCUIT" => some .errorOpenCircuit
  | "ERROR_GND_SHORT" => some .errorGndShort
  | "ERROR_VCC_SHORT" => some .errorVccShort
  | "ERROR_READ" => some .errorRead
  | "ERROR_NOT_INITIALIZED" => some .errorNotInitialized
  | _ => none

@[simp] theorem Label.ofText_text (l : Label) : Label.ofText l.text = some l := by
  cases l <;> rfl

theorem Label.text_injective : Function.Injective Label.text := by
  intro a b h
  have hread : some a = some b := by rw [← ofText_text a, h, ofText_text]
  exact Option.some.inj hread

end Sys2Proof.Machine

namespace Sys2Proof.Proofs

open Sys2Proof.Machine

/-- Settles O55: each accessor writes only its result; the label's text is R142's, status by status, and reading a
text back inverts `Label.text`, so no two labels share one. -/
theorem errorAccessors : Obligations.ErrorAccessors := by
  refine ⟨exec_getErr, fun s => ⟨s.status.label, exec_getErrstr s, ?_⟩, fun _ _ h => Label.text_injective h⟩
  cases s.status <;> rfl

end Sys2Proof.Proofs
end

section
/-! The two levels of a read (41_acquire.md R94, 43_read_commands.md R133): the accepting tick and the ticks after it
are the command run whole. -/

namespace Sys2Proof.Machine

variable (n : Nat) (b : Bool) (s : State)

/-- The block when the select delay of an acquisition begins, the phase apart (41_acquire.md R85). -/
def armed : State := writeCsN false { idleTick s with opsel := b, shreg := 0, bitcnt := 31 }

theorem startAcq_eq : startAcq n b s = { startDelay n (armed b s) with ph := .sel } := rfl

/-- BITCNT at the start does not matter at the operation level, for the first iteration writes it. -/
theorem shiftIn_armed : shiftIn n 32 (delay n (armed b s)) = shiftIn n 32 (selected n { s with opsel := b }) := by
  have hfirst : bitCycle n 31 (delay n (armed b s)) = bitCycle n 31 (selected n { s with opsel := b }) := rfl
  exact congrArg (shiftIn n 31) hfirst

/-- The 32 iterations: 64 N ticks after the start tick the last clock-low delay has begun, with the frame of the
operation level in SHREG. -/
theorem startAcq_loop (hn : 1 ≤ n) :
    ∃ y, seqTicks n (64 * n) (startAcq n b s) = { startDelay n y with ph := .lo } ∧
      delay n y = shiftIn n 32 (selected n { s with opsel := b }) ∧ y.bitcnt = 0 ∧ y.done = false ∧
      y.opsel = b := by
  have hzero : ∀ i, i < 31 → (lowEdge n 31 (delay n (armed b s))).shreg.getLsbD i = false := by
    intro i hi
    have hcleared : (lowEdge n 31 (delay n (armed b s))).shreg =
        setIfHigh 0 31 (State.soLevel { delay n (armed b s) with bitcnt := 31 }) := rfl
    rw [hcleared, getLsbD_setIfHigh _ _ _ _ (by decide)]
    simp [Nat.ne_of_lt hi]
  obtain ⟨y, hticks, hloop, hbitcnt, hdone, hopsel⟩ :=
    loop_ticks n 31 (lowEdge n 31 (delay n (armed b s))) hn (Nat.le_refl _) rfl rfl hzero
  refine ⟨y, ?_, ?_, hbitcnt, hdone, hopsel⟩
  · rw [show 64 * n = 2 * n + 2 * n * 31 by omega, seqTicks_add, startAcq_eq,
      first_cycle_ticks n (armed b s) hn rfl rfl (by simp [armed]), hticks]
  · rw [hloop, ← bitCycle_eq, ← shiftIn_armed]
    rfl

/-- 65 N ticks after its start tick an acquisition has run as ACQ does and ended as its read does. -/
theorem startAcq_run (hn : 1 ≤ n) (hidle : s.ph = .idle) :
    seqTicks n (65 * n) (startAcq n b s) = finishRead b (acquire n { s with opsel := b }) := by
  obtain ⟨y, hticks, hloop, hbitcnt, hdone, hopsel⟩ := startAcq_loop n b s hn
  have hacquired : ({ writeCsN true (delay n y) with ph := .idle } : State) = acquire n { s with opsel := b } := by
    have hph : (acquire n { s with opsel := b }).ph = .idle := by simpa using hidle
    rw [hloop, ← acquire_eq, ← hph]
  rw [show 65 * n = 64 * n + n by omega, seqTicks_add, hticks, complete_after_delay n y hn hdone hbitcnt, hacquired,
    hopsel]
  rfl

theorem beginRead_refused (h : s.status = .notInitialized) : beginRead n b s = refuseRead s := if_pos h

theorem beginRead_ready (h : s.status ≠ .notInitialized) : beginRead n b s = startAcq n b s := if_neg h

variable {s}

theorem tick_init (hidle : s.ph = .idle) : tick n false true 0b01#2 s = initBlock s := tick_accept n _ s hidle

theorem tick_rdTc (hidle : s.ph = .idle) : tick n false true 0b10#2 s = beginRead n false s := tick_accept n _ s hidle

theorem tick_rdInt (hidle : s.ph = .idle) : tick n false true 0b11#2 s = beginRead n true s := tick_accept n _ s hidle

/-- Both read codes start the acquisition that their bit 0 names (30_encoding.md R65). -/
theorem tick_read_ready {c : BitVec 2} (hidle : s.ph = .idle) (hready : s.status ≠ .notInitialized)
    (hc : c = 0b10#2 ∨ c = 0b11#2) : tick n false true c s = startAcq n (c.getLsbD 0) s := by
  obtain rfl | rfl := hc
  · rw [tick_rdTc n hidle, beginRead_ready n false s hready]; rfl
  · rw [tick_rdInt n hidle, beginRead_ready n true s hready]; rfl

/-- A read of a ready block as ticks: the tick that accepts its code, and 65 N more. -/
theorem read_ticks {c : BitVec 2} (hn : 1 ≤ n) (hidle : s.ph = .idle) (hready : s.status ≠ .notInitialized)
    (hc : c = 0b10#2 ∨ c = 0b11#2) :
    seqTicks n (65 * n) (tick n false true c s) =
      finishRead (c.getLsbD 0) (acquire n { s with opsel := c.getLsbD 0 }) := by
  rw [tick_read_ready n hidle hready hc, startAcq_run n _ s hn hidle]

theorem readTc_ticks (hn : 1 ≤ n) (hidle : s.ph = .idle) (hready : s.status ≠ .notInitialized) :
    seqTicks n (65 * n) (tick n false true 0b10#2 s) = readTc n s := by
  rw [read_ticks n hn hidle hready (.inl rfl), readTc_ready n s hready]
  rfl

theorem readInt_ticks (hn : 1 ≤ n) (hidle : s.ph = .idle) (hready : s.status ≠ .notInitialized) :
    seqTicks n (65 * n) (tick n false true 0b11#2 s) = readInt n s := by
  rw [read_ticks n hn hidle hready (.inr rfl), readInt_ready n s hready]
  rfl

end Sys2Proof.Machine

namespace Sys2Proof.Proofs

open Sys2Proof.Machine

/-- Settles O34: the start tick, 32 iterations of 2 N ticks and N ticks to the completion are ACQ and the tail of the
read. -/
theorem levelsAgree : Obligations.LevelsAgree :=
  fun n _ hn hidle hready => ⟨readTc_ticks n hn hidle hready, readInt_ticks n hn hidle hready⟩

/-- Settles O28: the tick accepts the read and is its start tick, whose writes are R85's. -/
theorem startTick : Obligations.StartTick := by
  intro n c s hidle hready hc
  rw [tick_read_ready n hidle hready hc]
  rfl

/-- Settles O35: INIT and the guard's refusal are done by the accepting tick alone. -/
theorem oneTickCommandsAgree : Obligations.OneTickCommandsAgree := by
  refine ⟨fun n s hidle => ?_, fun n s hidle huninit => ⟨?_, ?_⟩⟩
  · rw [exec_init_idle s hidle, tick_init n hidle]
  · rw [exec_rdTc_idle s hidle, readTc_refused _ s huninit, tick_rdTc n hidle, beginRead_refused n _ s huninit]
  · rw [exec_rdInt_idle s hidle, readInt_refused _ s huninit, tick_rdInt n hidle, beginRead_refused n _ s huninit]

end Sys2Proof.Proofs
end

section
/-! The two operands as sign-and-magnitude fields of any width (42_interpret.md R112 to R118), their ranges and images,
and the six bits CLASSIFY reads (R110). -/

namespace Sys2Proof.Machine

/-! ### Sign and magnitude -/

variable {w : Nat}

/-- A field of a sign bit above a magnitude of `w` bits, as an integer (30_encoding.md R62). -/
def signMagField (v : BitVec (w + 1)) : Int := signMag (v.getLsbD w) (v.toNat % 2 ^ w)

/-- The field as a number: the lower half of the patterns counts up from 0, the upper half down from 0. -/
theorem signMagField_eq (v : BitVec (w + 1)) :
    signMagField v = if v.toNat < 2 ^ w then (v.toNat : Int) else -((v.toNat - 2 ^ w : Nat) : Int) := by
  have hlt : v.toNat < 2 ^ w + 2 ^ w := by
    have h := v.isLt
    rwa [Nat.pow_succ, Nat.mul_two] at h
  have hsign : v.getLsbD w = decide (2 ^ w ≤ v.toNat) := v.msb_eq_getLsbD_last.symm.trans v.msb_eq_decide
  rw [signMagField, hsign]
  by_cases hlow : v.toNat < 2 ^ w
  · simp [signMag, hlow, Nat.not_le.2 hlow, Nat.mod_eq_of_lt]
  · have hmod : v.toNat % 2 ^ w = v.toNat - 2 ^ w := by
      rw [Nat.mod_eq_sub_mod (Nat.not_lt.1 hlow), Nat.mod_eq_of_lt (by omega)]
    simp [signMag, hlow, Nat.not_lt.1 hlow, hmod]

theorem signMagField_bounds (v : BitVec (w + 1)) :
    -(2 ^ w : Nat) < signMagField v ∧ signMagField v < (2 ^ w : Nat) := by
  have hlt := v.isLt
  rw [Nat.pow_succ, Nat.mul_two] at hlt
  rw [signMagField_eq]
  split <;> omega

/-- Zero has two patterns: a magnitude of 0 under either sign. -/
theorem signMagField_eq_zero_iff (v : BitVec (w + 1)) :
    signMagField v = 0 ↔ v.toNat = 0 ∨ v.toNat = 2 ^ w := by
  rw [signMagField_eq]
  split <;> omega

/-- The pattern of a nonzero number. -/
def signMagPattern (w : Nat) (z : Int) : BitVec (w + 1) :=
  BitVec.ofNat (w + 1) (if 0 < z then z.toNat else 2 ^ w + (-z).toNat)

/-- Every nonzero number in the range has one pattern and no other. -/
theorem signMagField_eq_iff {z : Int} (hlow : -(2 ^ w : Nat) < z) (hhigh : z < (2 ^ w : Nat)) (hz : z ≠ 0)
    (v : BitVec (w + 1)) : signMagField v = z ↔ v = signMagPattern w z := by
  have hpattern : (signMagPattern w z).toNat = if 0 < z then z.toNat else 2 ^ w + (-z).toNat := by
    rw [signMagPattern, BitVec.toNat_ofNat, Nat.mod_eq_of_lt]
    rw [Nat.pow_succ, Nat.mul_two]
    split <;> omega
  rw [BitVec.toNat_eq, hpattern, signMagField_eq]
  split <;> split <;> omega

/-! ### The two operands -/

theorem tcCount_eq_field (f : Frame) : tcCount f = signMagField (w := 13) (f.extractLsb' 18 14) :=
  tcCount_eq_of_field f _ rfl

theorem intCount_eq_field (f : Frame) : intCount f = signMagField (w := 11) (f.extractLsb' 4 12) :=
  intCount_eq_of_field f _ rfl

theorem tcCount_bounds (f : Frame) : -8191 ≤ tcCount f ∧ tcCount f ≤ 8191 := by
  obtain ⟨hlow, hhigh⟩ := signMagField_bounds (w := 13) (f.extractLsb' 18 14)
  rw [tcCount_eq_field]
  omega

theorem intCount_bounds (f : Frame) : -2047 ≤ intCount f ∧ intCount f ≤ 2047 := by
  obtain ⟨hlow, hhigh⟩ := signMagField_bounds (w := 11) (f.extractLsb' 4 12)
  rw [intCount_eq_field]
  omega

/-- The count of the thermocouple comes back from `data` (30_encoding.md R68). -/
theorem tc14_tcCount (f : Frame) : (tc14 (tcCount f)).toInt = tcCount f := by
  obtain ⟨hlow, hhigh⟩ := tcCount_bounds f
  exact tc14_toInt _ (by omega) hhigh

/-- The internal count comes back from `data` (30_encoding.md R68). -/
theorem tc14_intCount (f : Frame) : (tc14 (intCount f)).toInt = intCount f := by
  obtain ⟨hlow, hhigh⟩ := intCount_bounds f
  exact tc14_toInt _ (by omega) (by omega)

/-- Whatever a read delivers is an operand, so never -8192 (30_encoding.md R68). -/
theorem readResult_bounds {b : Bool} {a : Status} {f : Frame} {z : Int} (h : readResult b a f = some z) :
    -8191 ≤ z ∧ z ≤ 8191 := by
  have htc := tcCount_bounds f
  have hint := intCount_bounds f
  have hoperand : z = tcCount f ∨ z = intCount f := by
    unfold readResult at h
    split_ifs at h
    · exact .inr (Option.some.inj h).symm
    · exact .inl (Option.some.inj h).symm
  omega

/-! ### CLASSIFY -/

/-- CLASSIFY reads six bits (42_interpret.md R110). -/
theorem classifyFrame_congr {f g : Frame} (h : ∀ i ∈ [17, 16, 3, 2, 1, 0], f.getLsbD i = g.getLsbD i) :
    classifyFrame f = classifyFrame g := by
  have hrsv17 : rsv17 f = rsv17 g := h 17 (by decide)
  have hfault : faultFlag f = faultFlag g := h 16 (by decide)
  have hrsv3 : rsv3 f = rsv3 g := h 3 (by decide)
  have hscv : scv f = scv g := h 2 (by decide)
  have hscg : scg f = scg g := h 1 (by decide)
  have hoc : oc f = oc g := h 0 (by decide)
  simp only [classifyFrame, hrsv17, hfault, hrsv3, hscv, hscg, hoc]

end Sys2Proof.Machine

namespace Sys2Proof.Proofs

open Sys2Proof.Machine

/-- Settles O41: the operand is a sign-and-magnitude field of 13 + 1 bits. -/
theorem extTcRange : Obligations.ExtTcRange := by
  refine ⟨fun f => ⟨(tcCount_bounds f).1, (tcCount_bounds f).2, tc14_tcCount f⟩, fun z hlow hhigh hz => ?_, fun f => ?_⟩
  · refine ⟨signMagPattern 13 z, fun f => ?_⟩
    rw [tcCount_eq_field]
    exact signMagField_eq_iff (by omega) (by omega) hz _
  · rw [tcCount_eq_field, signMagField_eq_zero_iff, BitVec.toNat_eq, BitVec.toNat_eq]
    rfl

/-- Settles O42: the operand is a sign-and-magnitude field of 11 + 1 bits. -/
theorem extIntRange : Obligations.ExtIntRange := by
  refine ⟨fun f => ⟨(intCount_bounds f).1, (intCount_bounds f).2, tc14_intCount f⟩, fun z hlow hhigh hz => ?_,
    fun f => ?_⟩
  · refine ⟨signMagPattern 11 z, fun f => ?_⟩
    rw [intCount_eq_field]
    exact signMagField_eq_iff (by omega) (by omega) hz _
  · rw [intCount_eq_field, signMagField_eq_zero_iff, BitVec.toNat_eq, BitVec.toNat_eq]
    rfl

/-- Settles O38: none of the seven arms gives NOT_INITIALIZED, and the arms test those six bits alone. -/
theorem classifyReadsSixBits : Obligations.ClassifyReadsSixBits :=
  ⟨classifyFrame_ne_notInitialized, fun _ _ => classifyFrame_congr⟩

end Sys2Proof.Proofs
end

section
/-! The invariants of 10_state.md R34 and their companions at reset and over one tick. -/

namespace Sys2Proof.Machine

/-! ### Everything one tick can do (43_read_commands.md R134) -/

/-- The four codes on `cmd` in an idle block (30_encoding.md R65, R66, 43_read_commands.md R133). -/
theorem acceptTick_cases (n : Nat) (c : BitVec 2) (s : State) :
    acceptTick n c s = initBlock s ∨ acceptTick n c s = idleTick s ∨
      ∃ b, acceptTick n c s = beginRead n b s := by
  unfold acceptTick
  split_ifs
  · exact .inl rfl
  · exact .inr (.inr ⟨false, rfl⟩)
  · exact .inr (.inr ⟨true, rfl⟩)
  · exact .inr (.inl rfl)

theorem tick_cases (n : Nat) (r v : Bool) (c : BitVec 2) (s : State) :
    (r = true ∧ tick n r v c s = resetTick s) ∨
    (s.ph = .idle ∧ tick n r v c s = initBlock s) ∨
    (s.ph = .idle ∧ tick n r v c s = idleTick s) ∨
    (s.ph = .idle ∧ s.status = .notInitialized ∧ tick n r v c s = refuseRead s) ∨
    (s.ph = .idle ∧ s.status ≠ .notInitialized ∧ ∃ b, tick n r v c s = startAcq n b s) ∨
    (s.ph ≠ .idle ∧ tick n r v c s = seqTick n s) := by
  cases r with
  | true => exact .inl ⟨rfl, rfl⟩
  | false =>
    refine .inr ?_
    by_cases hidle : s.ph = .idle
    · cases v with
      | false => exact .inr (.inl ⟨hidle, tick_quiet n c s hidle⟩)
      | true =>
        rw [tick_accept n c s hidle]
        obtain e | e | ⟨b, e⟩ := acceptTick_cases n c s
        · exact .inl ⟨hidle, e⟩
        · exact .inr (.inl ⟨hidle, e⟩)
        · by_cases hready : s.status = .notInitialized
          · exact .inr (.inr (.inl ⟨hidle, hready, e.trans (beginRead_refused n b s hready)⟩))
          · exact .inr (.inr (.inr (.inl ⟨hidle, hready, b, e.trans (beginRead_ready n b s hready)⟩)))
    · exact .inr (.inr (.inr (.inr ⟨hidle, tick_busy n v c s hidle⟩)))

/-- A tick that samples and raises the clock (41_acquire.md R86, R88): what it writes, and that it leaves all else. -/
theorem riseTick_eq (n i : Nat) (s : State) : riseTick n i s = { s with
    shreg := assignBit s.shreg i s.soLevel, sck := true, dly := n - 1, ph := .hi,
    so := deviceOnClock s.selectWire s.clockWire { s with sck := true }.clockWire (sourceAfterSample s.so),
    ticks := s.ticks + 1, draws := s.draws + 1,
    trace := .delay :: .clock true :: .sample s.soLevel :: s.trace } := by
  unfold riseTick startDelay writeSck sampleInto readSo
  rfl

/-- A tick that lowers the clock (41_acquire.md R87): what it writes, and that it leaves all else. -/
theorem fallTick_eq (n : Nat) (s : State) : fallTick n s = { s with
    sck := false, dly := n - 1, ph := .lo,
    so := deviceOnClock s.selectWire s.clockWire { s with sck := false }.clockWire s.so,
    ticks := s.ticks + 1, trace := .delay :: .clock false :: s.trace } := rfl

/-! ### Reset -/

theorem reset_inv {n : Nat} (hn : 1 ≤ n) : State.reset.Inv n :=
  ⟨.inl (by decide), by decide, by decide, by decide, by decide, hn, by decide⟩

theorem reset_quiet : State.reset.Quiet := ⟨by decide, by decide, by decide⟩

variable {n : Nat} {s t u : State}

theorem SameRegisters.refl (s : State) : SameRegisters s s := by constructor <;> rfl

theorem SameRegisters.trans (hst : SameRegisters s t) (htu : SameRegisters t u) : SameRegisters s u := by
  cases hst
  cases htu
  constructor <;> simp only [*]

theorem resetTick_sameRegisters (s : State) : SameRegisters State.reset (resetTick s) := by constructor <;> rfl

/-- The invariants speak of registers alone. -/
theorem State.Inv.of_sameRegisters (h : s.Inv n) (hreg : SameRegisters s t) : t.Inv n := by
  obtain ⟨hstatus, hpincfg, hcsN, hsck, hph, -, hdly, -, -, -, hok, hdata⟩ := hreg
  obtain ⟨hconfig, hselect, hclock, hready, hcode, hdelay, hvalue⟩ := h
  constructor <;> simpa only [hstatus, hpincfg, hcsN, hsck, hph, hdly, hok, hdata]

/-- The companions speak of registers alone. -/
theorem State.Quiet.of_sameRegisters (h : s.Quiet) (hreg : SameRegisters s t) : t.Quiet := by
  obtain ⟨-, -, -, -, hph, hbitcnt, -, -, -, hdone, -, hdata⟩ := hreg
  obtain ⟨hquiet, hfirst, hvalue⟩ := h
  constructor <;> simpa only [hph, hbitcnt, hdone, hdata]

/-! ### The invariants over a tick -/

theorem Status.code_ne_unassigned (a : Status) : a.code ≠ 6#3 ∧ a.code ≠ 7#3 := by cases a <;> decide

theorem State.Inv.csN_idle (h : s.Inv n) (hidle : s.ph = .idle) : s.csN = true := h.select.2 hidle

theorem State.Inv.sck_low (h : s.Inv n) (hph : s.ph ≠ .hi) : s.sck = false := by
  rw [← Bool.not_eq_true]
  exact fun hsck => hph (h.clock.1 hsck)

theorem State.Inv.nSettle_pos (h : s.Inv n) : 1 ≤ n := Nat.one_le_of_lt h.delay

theorem State.Inv.resetTick (hn : 1 ≤ n) (s : State) : (resetTick s).Inv n :=
  (reset_inv hn).of_sameRegisters (resetTick_sameRegisters s)

theorem State.Inv.initBlock (h : s.Inv n) (hidle : s.ph = .idle) : (initBlock s).Inv n where
  config := .inr (by decide : Status.none ≠ .notInitialized ∧ PinCfg.code ⟨true, true, true⟩ = 0b111#3)
  select := iff_of_true rfl hidle
  clock := by simp [hidle]
  ready := fun hbusy => absurd hidle hbusy
  code := Status.code_ne_unassigned _
  delay := h.delay
  data := fun _ => rfl

/-- DONE and BITCNT are in none of the invariants. -/
theorem State.Inv.with_done_bitcnt (h : s.Inv n) (d : Bool) (k : BitVec 5) :
    ({ s with done := d, bitcnt := k } : State).Inv n :=
  ⟨h.config, h.select, h.clock, h.ready, h.code, h.delay, h.data⟩

theorem State.Inv.idleTick (h : s.Inv n) : (idleTick s).Inv n := { h with }

theorem State.Inv.refuseRead (h : s.Inv n) : (refuseRead s).Inv n := { h with data := fun _ => rfl }

theorem State.Inv.startAcq (h : s.Inv n) (hidle : s.ph = .idle) (hready : s.status ≠ .notInitialized) (b : Bool) :
    (startAcq n b s).Inv n where
  config := h.config
  select := iff_of_false Bool.false_ne_true nofun
  clock := iff_of_false (by simp [Machine.startAcq, h.sck_low (by simp [hidle])]) nofun
  ready := fun _ => hready
  code := h.code
  delay := Nat.sub_one_lt_of_lt h.nSettle_pos
  data := h.data

theorem State.Inv.waitTick (h : s.Inv n) : (waitTick s).Inv n :=
  { h with delay := Nat.lt_of_le_of_lt (Nat.sub_le _ _) h.delay }

theorem State.Inv.riseTick (h : s.Inv n) (hbusy : s.ph ≠ .idle) (i : Nat) : (riseTick n i s).Inv n := by
  rw [riseTick_eq]
  exact {
    config := h.config
    select := iff_of_false (fun hcsN => hbusy (h.select.1 hcsN)) nofun
    clock := iff_of_true rfl rfl
    ready := fun _ => h.ready hbusy
    code := h.code
    delay := Nat.sub_one_lt_of_lt h.nSettle_pos
    data := h.data }

theorem State.Inv.fallTick (h : s.Inv n) (hbusy : s.ph ≠ .idle) : (fallTick n s).Inv n where
  config := h.config
  select := iff_of_false (fun hcsN => hbusy (h.select.1 hcsN)) nofun
  clock := iff_of_false Bool.false_ne_true nofun
  ready := fun _ => h.ready hbusy
  code := h.code
  delay := Nat.sub_one_lt_of_lt h.nSettle_pos
  data := h.data

/-- A read with no value answers 0 on `data` (10_state.md R34 (g)). -/
theorem completeTick_data_of_not_ok (hok : (completeTick s).ok = false) : (completeTick s).data = 0 := by
  cases hvalue : readResult s.opsel (classifyFrame s.shreg) s.shreg with
  | none => exact (completeTick_no_value s hvalue).2
  | some z => simp [(completeTick_value s hvalue).1] at hok

theorem State.Inv.completeTick (h : s.Inv n) (hlo : s.ph = .lo) : (completeTick s).Inv n where
  config := by
    have hready : s.status ≠ .notInitialized := h.ready (by simp [hlo])
    have hdriven : s.pincfg.code = 0b111#3 := by simpa [hready] using h.config
    exact .inr ⟨completeTick_status_ne s, by rwa [completeTick_frame]⟩
  select := by rw [completeTick_frame]; exact iff_of_true rfl rfl
  clock := by
    rw [completeTick_frame]
    exact iff_of_false (by simp [h.sck_low (by simp [hlo])]) nofun
  ready := fun _ => completeTick_status_ne s
  code := Status.code_ne_unassigned _
  delay := by rw [completeTick_frame]; exact h.delay
  data := completeTick_data_of_not_ok

theorem State.Inv.seqTick (h : s.Inv n) : (seqTick n s).Inv n := by
  obtain ⟨-, e⟩ | ⟨-, -, e⟩ | ⟨hsel, -, e⟩ | ⟨-, -, e⟩ | ⟨hhi, -, e⟩ | ⟨-, -, e⟩ | ⟨hlo, -, -, e⟩ | ⟨hlo, -, -, e⟩ :=
    seqTick_cases n s <;> rw [e]
  · exact h.idleTick
  · exact (h.with_done_bitcnt false s.bitcnt).waitTick
  · exact (h.with_done_bitcnt false s.bitcnt).riseTick (by simp [hsel]) _
  · exact h.waitTick
  · exact h.fallTick (by simp [hhi])
  · exact h.waitTick
  · exact (h.with_done_bitcnt s.done (s.bitcnt - 1)).riseTick (by simp [hlo]) _
  · exact h.completeTick hlo

theorem State.Inv.tick (h : s.Inv n) (r v : Bool) (c : BitVec 2) : (tick n r v c s).Inv n := by
  obtain ⟨-, e⟩ | ⟨hidle, e⟩ | ⟨-, e⟩ | ⟨-, -, e⟩ | ⟨hidle, hready, b, e⟩ | ⟨-, e⟩ := tick_cases n r v c s <;> rw [e]
  · exact resetTick h.nSettle_pos s
  · exact h.initBlock hidle
  · exact h.idleTick
  · exact h.refuseRead
  · exact h.startAcq hidle hready b
  · exact h.seqTick

/-! ### The companions over a tick -/

/-- A value in the range of the operands is not -8192 on `data` (30_encoding.md R68). -/
theorem tc14_ne_minimum {z : Int} (hlow : -8191 ≤ z) (hhigh : z ≤ 8191) : tc14 z ≠ 0b10000000000000#14 := by
  intro h
  have hz : z = (0b10000000000000#14).toInt := by rw [← h, tc14_toInt z (by omega) hhigh]
  have hmin : (0b10000000000000#14).toInt = -8192 := by decide
  omega

theorem completeTick_data_ne_minimum (s : State) : (completeTick s).data ≠ 0b10000000000000#14 := by
  cases hvalue : readResult s.opsel (classifyFrame s.shreg) s.shreg with
  | none => rw [(completeTick_no_value s hvalue).2]; decide
  | some z =>
    obtain ⟨hlow, hhigh⟩ := readResult_bounds hvalue
    rw [(completeTick_value s hvalue).2]
    exact tc14_ne_minimum hlow hhigh

theorem State.Quiet.initBlock (hidle : s.ph = .idle) : (initBlock s).Quiet where
  done := fun hbusy => absurd hidle hbusy
  first := fun hsel => by simp [hidle] at hsel
  data := (by decide : (0 : Count) ≠ 0b10000000000000#14)

theorem State.Quiet.refuseRead (h : s.Quiet) (hidle : s.ph = .idle) : (refuseRead s).Quiet :=
  { h with
    done := fun hbusy => absurd hidle hbusy
    data := (by decide : (0 : Count) ≠ 0b10000000000000#14) }

theorem State.Quiet.completeTick (s : State) : (completeTick s).Quiet where
  done := by rw [completeTick_frame]; exact fun hbusy => absurd rfl hbusy
  first := by rw [completeTick_frame]; exact nofun
  data := completeTick_data_ne_minimum s

theorem State.Quiet.riseTick (hdone : s.done = false) (hdata : s.data ≠ 0b10000000000000#14) (i : Nat) :
    (riseTick n i s).Quiet := by
  rw [riseTick_eq]
  exact ⟨fun _ => hdone, nofun, hdata⟩

theorem State.Quiet.seqTick (h : s.Quiet) : (seqTick n s).Quiet := by
  obtain ⟨-, e⟩ | ⟨-, -, e⟩ | ⟨-, -, e⟩ | ⟨-, -, e⟩ | ⟨hhi, -, e⟩ | ⟨-, -, e⟩ | ⟨hlo, -, -, e⟩ | ⟨-, -, -, e⟩ :=
    seqTick_cases n s <;> rw [e]
  · exact ⟨fun _ => rfl, h.first, h.data⟩
  · exact ⟨fun _ => rfl, h.first, h.data⟩
  · exact riseTick (s := { s with done := false }) rfl h.data _
  · exact ⟨h.done, h.first, h.data⟩
  · exact ⟨fun _ => h.done (by simp [hhi]), nofun, h.data⟩
  · exact ⟨h.done, h.first, h.data⟩
  · exact riseTick (s := { s with bitcnt := s.bitcnt - 1 }) (h.done (by simp [hlo])) h.data _
  · exact completeTick s

theorem State.Quiet.tick (h : s.Quiet) (r v : Bool) (c : BitVec 2) : (tick n r v c s).Quiet := by
  obtain ⟨-, e⟩ | ⟨hidle, e⟩ | ⟨-, e⟩ | ⟨hidle, -, e⟩ | ⟨-, -, b, e⟩ | ⟨-, e⟩ := tick_cases n r v c s <;> rw [e]
  · exact reset_quiet.of_sameRegisters (resetTick_sameRegisters s)
  · exact initBlock hidle
  · exact ⟨fun _ => rfl, h.first, h.data⟩
  · exact h.refuseRead hidle
  · exact ⟨fun _ => rfl, fun _ => rfl, h.data⟩
  · exact h.seqTick

end Sys2Proof.Machine
end

section
/-! Every step is, in the registers, a run of ticks, so what ticks keep, steps keep. -/

namespace Sys2Proof.Machine

variable {n : Nat} {s t u : State}

/-! ### Runs of ticks -/

/-- The registers of `t` are those that some ticks lead to from `s`. -/
def ByTicks (n : Nat) (s t : State) : Prop := ∃ ls : List Levels, SameRegisters (runTicks n ls s) t

/-- A tick of the sequencer is a tick of an idle bus (43_read_commands.md R134). -/
theorem seqTick_eq_tick (n : Nat) (s : State) : seqTick n s = tick n false false 0 s := by
  by_cases hidle : s.ph = .idle
  · rw [tick_quiet n 0 s hidle, seqTick, hidle]
  · rw [tick_busy n false 0 s hidle]

theorem seqTicks_eq_runTicks (n k : Nat) (s : State) :
    seqTicks n k s = runTicks n (List.replicate k ⟨false, false, 0⟩) s := by
  induction k generalizing s with
  | zero => rfl
  | succ k ih => rw [seqTicks, ih, seqTick_eq_tick]; rfl

theorem ByTicks.of_sameRegisters (h : SameRegisters s t) : ByTicks n s t := ⟨[], h⟩

theorem ByTicks.of_tick (n : Nat) (r v : Bool) (c : BitVec 2) (s : State) : ByTicks n s (tick n r v c s) :=
  ⟨[⟨r, v, c⟩], .refl _⟩

theorem ByTicks.of_tick_seqTicks (n k : Nat) (r v : Bool) (c : BitVec 2) (s : State) :
    ByTicks n s (seqTicks n k (tick n r v c s)) := by
  rw [seqTicks_eq_runTicks]
  exact ⟨⟨r, v, c⟩ :: List.replicate k ⟨false, false, 0⟩, .refl _⟩

/-- What moves no register after the ticks does not count. -/
theorem ByTicks.then_same (h : ByTicks n s t) (hreg : SameRegisters t u) : ByTicks n s u := by
  obtain ⟨ls, hls⟩ := h
  exact ⟨ls, hls.trans hreg⟩

/-- A predicate on registers that every tick keeps holds after any ticks. -/
theorem ByTicks.keeps {P : State → Prop} (hreg : ∀ s t, P s → SameRegisters s t → P t)
    (htick : ∀ r v c s, P s → P (tick n r v c s)) (h : ByTicks n s t) (hs : P s) : P t := by
  obtain ⟨ls, hls⟩ := h
  refine hreg _ _ ?_ hls
  clear hls
  induction ls generalizing s with
  | nil => exact hs
  | cons l ls ih => exact ih (htick l.rst l.cmdValid l.cmd s hs)

/-! ### The rows as ticks -/

theorem one_le_nSettle : 1 ≤ Config.nSettle := Nat.le_add_left 1 _

/-- A whole read is the accepting tick and those that complete it (41_acquire.md R94). -/
theorem readTc_byTicks (hn : 1 ≤ n) (hidle : s.ph = .idle) : ByTicks n s (readTc n s) := by
  by_cases hready : s.status = .notInitialized
  · rw [readTc_refused n s hready, ← beginRead_refused n false s hready, ← tick_rdTc n hidle]
    exact .of_tick n _ _ _ s
  · rw [← readTc_ticks n hn hidle hready]
    exact .of_tick_seqTicks n _ _ _ _ s

@[inherit_doc readTc_byTicks]
theorem readInt_byTicks (hn : 1 ≤ n) (hidle : s.ph = .idle) : ByTicks n s (readInt n s) := by
  by_cases hready : s.status = .notInitialized
  · rw [readInt_refused n s hready, ← beginRead_refused n true s hready, ← tick_rdInt n hidle]
    exact .of_tick n _ _ _ s
  · rw [← readInt_ticks n hn hidle hready]
    exact .of_tick_seqTicks n _ _ _ _ s

theorem runCelsius_sameRegisters (lsb : Rat) (s : State) : SameRegisters s (runCelsius lsb s) := by constructor <;> rfl

theorem runFahrenheit_sameRegisters (s : State) : SameRegisters s (runFahrenheit s) := by constructor <;> rfl

theorem nextAct_sameRegisters (s : State) : SameRegisters s (nextAct s) := by
  obtain ⟨a, as, d, h⟩ := nextAct_eq s
  rw [h]
  constructor <;> rfl

/-- A busy block does not take an offer and goes on by one tick (10_state.md R29; log entry 13). -/
theorem offer_busy (f : State → State) (h : s.ph ≠ .idle) : offer f s = seqTick Config.nSettle s := if_neg h

theorem offer_byTicks {f : State → State} (hf : s.ph = .idle → ByTicks Config.nSettle s (f s)) :
    ByTicks Config.nSettle s (offer f s) := by
  by_cases hidle : s.ph = .idle
  · rw [offer_idle s f hidle]
    exact hf hidle
  · rw [offer_busy f hidle, seqTick_eq_tick]
    exact .of_tick _ _ _ _ s

/-- The rows a host can offer or call are ticks and host-side functions, which move no register. -/
theorem exec_byTicks {i : Instr} (hi : i.format ≠ .u) (h : exec i s = .next t) : ByTicks Config.nSettle s t := by
  have hTc : s.ph = .idle → ByTicks Config.nSettle s (readTc Config.nSettle s) := readTc_byTicks one_le_nSettle
  have hInt : s.ph = .idle → ByTicks Config.nSettle s (readInt Config.nSettle s) := readInt_byTicks one_le_nSettle
  obtain ⟨-, rfl⟩ | ⟨-, rfl⟩ | ⟨-, rfl⟩ | ⟨-, rfl⟩ | ⟨rfl, -, -⟩ | ⟨rfl, -⟩ | ⟨rfl, -⟩ | ⟨rfl, -⟩ |
    ⟨-, rfl⟩ | ⟨-, rfl⟩ | ⟨-, rfl⟩ | ⟨-, rfl⟩ | ⟨-, rfl⟩ | ⟨-, rfl⟩ | ⟨-, rfl⟩ | ⟨-, rfl⟩ | ⟨-, rfl⟩ :=
    exec_cases i s t h
  · refine offer_byTicks fun hidle => ?_
    rw [← tick_init Config.nSettle hidle]
    exact .of_tick _ _ _ _ s
  · exact offer_byTicks hTc
  · exact offer_byTicks hInt
  · refine offer_byTicks fun hidle => ?_
    rw [← tick_quiet Config.nSettle 0 s hidle]
    exact .of_tick _ _ _ _ s
  · exact absurd rfl hi
  · exact absurd rfl hi
  · exact absurd rfl hi
  · exact absurd rfl hi
  · exact offer_byTicks fun hidle => (hTc hidle).then_same (runCelsius_sameRegisters _ _)
  · exact offer_byTicks fun hidle => (hInt hidle).then_same (runCelsius_sameRegisters _ _)
  · exact offer_byTicks fun hidle =>
      (hTc hidle).then_same ((runCelsius_sameRegisters _ _).trans (runFahrenheit_sameRegisters _))
  · exact offer_byTicks fun hidle =>
      (hInt hidle).then_same ((runCelsius_sameRegisters _ _).trans (runFahrenheit_sameRegisters _))
  · exact .of_sameRegisters (by constructor <;> rfl)
  · exact .of_sameRegisters (by constructor <;> rfl)
  · exact .of_sameRegisters (runCelsius_sameRegisters _ s)
  · exact .of_sameRegisters (runCelsius_sameRegisters _ s)
  · exact .of_sameRegisters (runFahrenheit_sameRegisters s)

theorem decodeCmd_format : ∀ c : BitVec 2, (decodeCmd c).format = .c := by decide

theorem ite_nextAct_sameRegisters (w : Bool) (s : State) : SameRegisters s (if w then s else nextAct s) := by
  cases w
  · exact nextAct_sameRegisters s
  · exact .refl s

/-- Every step is, in the registers, a run of ticks. -/
theorem step_byTicks (h : step s = .next t) : ByTicks Config.nSettle s t := by
  obtain ⟨r, v, c, -, rfl⟩ | ⟨c, u, -, hexec, rfl⟩ | ⟨i, u, -, hp, hexec, rfl⟩ | ⟨l, -, rfl⟩ := step_cases s t h
  · exact (ByTicks.of_tick _ r v c s).then_same (nextAct_sameRegisters _)
  · exact (exec_byTicks (by simp [decodeCmd_format]) hexec).then_same (ite_nextAct_sameRegisters _ u)
  · exact (exec_byTicks (by simp [hp]) hexec).then_same (ite_nextAct_sameRegisters _ u)
  · have hattach : SameRegisters s { s with so := l } := by constructor <;> rfl
    exact .of_sameRegisters (hattach.trans (nextAct_sameRegisters _))

/-! ### The end of an acquisition -/

/-- The ticks left until the block is idle (41_acquire.md R92). -/
def State.ticksLeft (n : Nat) (s : State) : Nat :=
  match s.ph with
  | .idle => 0
  | .sel => s.dly + 1 + 64 * n
  | .hi => s.dly + 1 + n + 2 * n * s.bitcnt.toNat
  | .lo => s.dly + 1 + 2 * n * s.bitcnt.toNat

theorem ticksLeft_idle (hp : s.ph = .idle) : s.ticksLeft n = 0 := by simp only [State.ticksLeft, hp]

theorem ticksLeft_sel (hp : s.ph = .sel) : s.ticksLeft n = s.dly + 1 + 64 * n := by simp only [State.ticksLeft, hp]

theorem ticksLeft_hi (hp : s.ph = .hi) : s.ticksLeft n = s.dly + 1 + n + 2 * n * s.bitcnt.toNat := by
  simp only [State.ticksLeft, hp]

theorem ticksLeft_lo (hp : s.ph = .lo) : s.ticksLeft n = s.dly + 1 + 2 * n * s.bitcnt.toNat := by
  simp only [State.ticksLeft, hp]

theorem ticksLeft_le (hdly : s.dly < n) : s.ticksLeft n ≤ 65 * n := by
  have hbits : 2 * n * s.bitcnt.toNat ≤ 2 * n * 31 := Nat.mul_le_mul_left _ (Nat.le_of_lt_succ s.bitcnt.isLt)
  unfold State.ticksLeft
  split <;> omega

@[simp] theorem waitTick_bitcnt (s : State) : (waitTick s).bitcnt = s.bitcnt := rfl

/-- A tick inside a delay. -/
theorem ticksLeft_waitTick (hbusy : s.ph ≠ .idle) (hdly : s.dly ≠ 0) :
    (waitTick s).ticksLeft n + 1 = s.ticksLeft n := by
  have hwait : (waitTick s).dly + 1 = s.dly := Nat.sub_add_cancel (Nat.pos_of_ne_zero hdly)
  cases hp : s.ph with
  | idle => exact absurd hp hbusy
  | sel => rw [ticksLeft_sel hp, ticksLeft_sel (s := waitTick s) hp]; omega
  | hi => rw [ticksLeft_hi hp, ticksLeft_hi (s := waitTick s) hp, ← hwait, waitTick_bitcnt]; omega
  | lo => rw [ticksLeft_lo hp, ticksLeft_lo (s := waitTick s) hp, ← hwait, waitTick_bitcnt]; omega

/-- A tick that raises the clock leaves a clock-high delay, and two delays for each bit below. -/
theorem ticksLeft_riseTick (hn : 1 ≤ n) (i : Nat) (s : State) :
    (riseTick n i s).ticksLeft n = 2 * n + 2 * n * s.bitcnt.toNat := by
  rw [riseTick_eq, ticksLeft_hi rfl]
  dsimp only
  omega

/-- A tick that lowers the clock leaves a clock-low delay, and two delays for each bit below. -/
theorem ticksLeft_fallTick (hn : 1 ≤ n) (s : State) : (fallTick n s).ticksLeft n = n + 2 * n * s.bitcnt.toNat := by
  rw [fallTick_eq, ticksLeft_lo rfl]
  dsimp only
  omega

/-- Each tick of a busy block is one tick fewer. -/
theorem ticksLeft_seqTick (hn : 1 ≤ n) (hfirst : s.ph = .sel → s.bitcnt = 31) (hbusy : s.ph ≠ .idle) :
    (seqTick n s).ticksLeft n + 1 = s.ticksLeft n := by
  obtain ⟨hp, -⟩ | ⟨-, hd, e⟩ | ⟨hp, hd, e⟩ | ⟨-, hd, e⟩ | ⟨hp, hd, e⟩ | ⟨-, hd, e⟩ | ⟨hp, hd, hb, e⟩ |
    ⟨hp, hd, hb, e⟩ := seqTick_cases n s
  · exact absurd hp hbusy
  · rw [e]
    exact ticksLeft_waitTick (s := { s with done := false }) hbusy hd
  · have hbits : s.bitcnt.toNat = 31 := congrArg BitVec.toNat (hfirst hp)
    rw [e, ticksLeft_riseTick hn, ticksLeft_sel hp, hd, hbits]
    omega
  · rw [e]
    exact ticksLeft_waitTick hbusy hd
  · rw [e, ticksLeft_fallTick hn, ticksLeft_hi hp, hd]
    omega
  · rw [e]
    exact ticksLeft_waitTick hbusy hd
  · have hbits : s.bitcnt.toNat = (s.bitcnt - 1).toNat + 1 := by bv_omega
    rw [e, ticksLeft_riseTick hn, ticksLeft_lo hp, hd, hbits, Nat.mul_succ]
    dsimp only
    omega
  · rw [e, completeTick_frame, ticksLeft_idle rfl, ticksLeft_lo hp, hd, hb]
    rfl

theorem seqTicks_ticksLeft (hn : 1 ≤ n) (hquiet : s.Quiet) : (seqTicks n (s.ticksLeft n) s).ph = .idle := by
  generalize hk : s.ticksLeft n = k
  induction k generalizing s with
  | zero =>
    by_contra hbusy
    have := ticksLeft_seqTick hn hquiet.first hbusy
    omega
  | succ k ih =>
    have hbusy : s.ph ≠ .idle := fun hidle => by simp [ticksLeft_idle hidle] at hk
    have := ticksLeft_seqTick hn hquiet.first hbusy
    exact ih hquiet.seqTick (by omega)

/-! ### The step, act by act -/

theorem step_clock {r v : Bool} {c : BitVec 2} (h : s.host = .clock r v c) :
    step s = .next (nextAct (tick Config.nSettle r v c s)) := by
  unfold step
  rw [h]
  rfl

theorem step_issue {c : BitVec 2} (h : s.host = .issue c) :
    step s = afterRow (decodeCmd c) s (exec (decodeCmd c) s) := by
  unfold step
  rw [h]

theorem step_call {i : Instr} (h : s.host = .call i) (hp : i.format = .p) : step s = afterRow i s (exec i s) := by
  unfold step
  rw [h]
  exact if_pos (by simp [HostAct.wellFormed, hp])

theorem step_call_refused {i : Instr} (h : s.host = .call i) (hp : i.format ≠ .p) :
    step s = .refused .notIssuable := by
  unfold step
  rw [h]
  exact if_neg (by simp [HostAct.wellFormed, hp])

theorem step_attach {l : SoSource} (h : s.host = .attach l) : step s = .next (nextAct { s with so := l }) := by
  unfold step
  rw [h]
  rfl

theorem afterRow_next (i : Instr) (s t : State) :
    afterRow i s (.next t) = .next (if (issuedCode i).isSome && s.ph != .idle then t else nextAct t) := rfl

/-- A row that is no micro-operation has its meaning in every state. -/
theorem exec_answers {i : Instr} (hi : i.format ≠ .u) (s : State) : ∃ t, exec i s = .next t := by
  cases i
  case acq => exact absurd rfl hi
  all_goals exact ⟨_, rfl⟩

/-- A row with a command in it is an offer of that command. -/
theorem exec_eq_offer {i : Instr} (hi : (issuedCode i).isSome = true) :
    ∃ f : State → State, ∀ s, exec i s = .next (offer f s) := by
  cases i
  case init | rdTc | rdInt | rdTcC | rdIntC | rdTcF | rdIntF => exact ⟨_, fun _ => rfl⟩
  all_goals cases hi

end Sys2Proof.Machine

namespace Sys2Proof.Proofs

open Sys2Proof.Machine

/-- Settles O8: a step is a run of ticks in the registers, of which alone the invariants speak, and every tick keeps
them. -/
theorem stepKeepsInvariants : Obligations.StepKeepsInvariants := by
  intro s t hinv hstep
  exact (step_byTicks hstep).keeps (fun _ _ h => h.of_sameRegisters) (fun r v c _ h => h.tick r v c) hinv

/-- Settles O9: case by case over what a tick can do. -/
theorem tickKeepsInvariants : Obligations.TickKeepsInvariants :=
  fun _ r v c _ _ hinv => hinv.tick r v c

/-- Settles O10: a step is a run of ticks in the registers, and every tick keeps the companions. -/
theorem stepKeepsCompanions : Obligations.StepKeepsCompanions := by
  intro s t hquiet hstep
  exact (step_byTicks hstep).keeps (fun _ _ h => h.of_sameRegisters) (fun r v c _ h => h.tick r v c) hquiet

/-- Settles O7: register by register. -/
theorem resetMeetsInvariants : Obligations.ResetMeetsInvariants := ⟨fun _ hn => reset_inv hn, reset_quiet⟩

/-- Settles O11: DLY is below N_SETTLE, which is at most the power of two of its rounded-up logarithm. -/
theorem delayFitsItsWidth : Obligations.DelayFitsItsWidth := by
  intro n s hinv
  calc s.dly < n := hinv.delay
    _ ≤ 2 ^ Nat.clog 2 n := Nat.le_pow_clog (by decide) n
    _ ≤ 2 ^ Config.delayWidth n := Nat.pow_le_pow_right (by decide) (Nat.le_max_right _ _)

/-- Settles O36: the ticks left are at most 65 N_SETTLE, and the block is idle after them. -/
theorem acquisitionAlwaysEnds : Obligations.AcquisitionAlwaysEnds := by
  intro n s hn hinv hquiet
  exact ⟨s.ticksLeft n, ticksLeft_le hinv.delay, seqTicks_ticksLeft hn hquiet⟩

/-- Settles O12: the step on an offered and on a called row. -/
theorem stepRunsTheDecodedRow : Obligations.StepRunsTheDecodedRow := by
  refine ⟨fun s t c hhost hexec => ?_, fun s t i hhost hp hexec => ?_, fun s nbits w hw => ⟨if_pos hw, rfl⟩⟩
  · rw [step_issue hhost, hexec, afterRow_next]
  · rw [step_call hhost hp, hexec, afterRow_next]

/-- Settles O13: the step on the other acts. -/
theorem stepOfOtherActs : Obligations.StepOfOtherActs :=
  ⟨fun _ _ _ _ => step_clock, fun _ _ => step_attach, fun _ _ => step_call_refused⟩

/-- Settles O14: act by act; an offered or called row is no micro-operation, so it answers. -/
theorem stepNeverStops : Obligations.StepNeverStops := by
  intro s hwell
  cases hhost : s.host with
  | clock r v c => exact ⟨_, step_clock hhost⟩
  | issue c =>
    obtain ⟨t, hexec⟩ := exec_answers (i := decodeCmd c) (by simp [decodeCmd_format]) s
    exact ⟨_, by rw [step_issue hhost, hexec, afterRow_next]⟩
  | call i =>
    have hp : i.format = .p := by simpa [hhost, HostAct.wellFormed] using hwell
    obtain ⟨t, hexec⟩ := exec_answers (i := i) (by simp [hp]) s
    exact ⟨_, by rw [step_call hhost hp, hexec, afterRow_next]⟩
  | attach l => exact ⟨_, step_attach hhost⟩

/-- Settles O16: at a busy block every tick without reset is the sequencer's, and so is an offer. -/
theorem busyBlockAcceptsNothing : Obligations.BusyBlockAcceptsNothing := by
  refine ⟨fun n v v' c c' s hbusy => ?_, fun i s hi hbusy => ?_⟩
  · rw [tick_busy n v c s hbusy, tick_busy n v' c' s hbusy]
  · obtain ⟨f, hexec⟩ := exec_eq_offer hi
    rw [hexec, offer_busy f hbusy, tick_busy _ _ _ s hbusy]

end Sys2Proof.Proofs
end

section
/-! Single ticks and commands as effects on the whole state: reset, an idle tick, INIT, and the phases of an acquisition
(41_acquire.md R86 to R88). -/

namespace Sys2Proof.Machine

variable {n : Nat} {s : State}

theorem resetTick_sameHost (s : State) : SameHost s (resetTick s) := by constructor <;> rfl

/-- A source that is no device takes no notice of the wires. -/
theorem seenByDevice_no_device (hso : ∀ f k, s.so ≠ .dev f k) (t : State) : seenByDevice s t = s.so := by
  cases h : s.so with
  | any => exact seenByDevice_any s t h
  | script bits => exact seenByDevice_script s t bits h
  | dev f k => exact absurd h (hso f k)

theorem idleTick_eq (s : State) : idleTick s = { s with done := false, ticks := s.ticks + 1 } := rfl

theorem exec_reserved00_idle (hidle : s.ph = .idle) : exec .reserved00 s = .next (idleTick s) :=
  congrArg Host.Outcome.next (offer_idle s idleTick hidle)

/-- The events INIT adds to the trace, newest first (40_init.md R75; log entry 21). -/
def initEvents : List PinEvent :=
  [.clock false, .select true, .pinMode .so false, .pinMode .csN true, .pinMode .sck true]

theorem initBlock_trace (s : State) : (initBlock s).trace = initEvents ++ s.trace := rfl

theorem initEvents_filter_isSample : initEvents.filter PinEvent.isSample = [] := rfl

/-! ### The phases -/

theorem seqTick_of_sel (n : Nat) (hp : s.ph = .sel) : seqTick n s = selTick n s := by simp only [seqTick, hp]

theorem seqTick_of_hi (n : Nat) (hp : s.ph = .hi) : seqTick n s = hiTick n s := by simp only [seqTick, hp]

theorem seqTick_of_lo (n : Nat) (hp : s.ph = .lo) : seqTick n s = loTick n s := by simp only [seqTick, hp]

theorem seqTick_wait_sel (n : Nat) (hp : s.ph = .sel) (hdly : s.dly ≠ 0) :
    seqTick n s = { s with dly := s.dly - 1, done := false, ticks := s.ticks + 1 } :=
  (seqTick_of_sel n hp).trans (if_pos hdly)

theorem seqTick_wait_hi (n : Nat) (hp : s.ph = .hi) (hdly : s.dly ≠ 0) :
    seqTick n s = { s with dly := s.dly - 1, ticks := s.ticks + 1 } :=
  (seqTick_of_hi n hp).trans (if_pos hdly)

theorem seqTick_wait_lo (n : Nat) (hp : s.ph = .lo) (hdly : s.dly ≠ 0) :
    seqTick n s = { s with dly := s.dly - 1, ticks := s.ticks + 1 } :=
  (seqTick_of_lo n hp).trans (if_pos hdly)

theorem seqTick_first_rise (n : Nat) (hp : s.ph = .sel) (hdly : s.dly = 0) :
    seqTick n s = riseTick n 31 { s with done := false } :=
  (seqTick_of_sel n hp).trans (if_neg (not_not_intro hdly))

theorem seqTick_fall (n : Nat) (hp : s.ph = .hi) (hdly : s.dly = 0) : seqTick n s = fallTick n s :=
  (seqTick_of_hi n hp).trans (if_neg (not_not_intro hdly))

theorem seqTick_next_rise (n : Nat) (hp : s.ph = .lo) (hdly : s.dly = 0) (hmore : s.bitcnt ≠ 0) :
    seqTick n s = riseTick n (s.bitcnt.toNat - 1) { s with bitcnt := s.bitcnt - 1 } :=
  (seqTick_of_lo n hp).trans ((if_neg (not_not_intro hdly)).trans (if_pos hmore))

theorem getLsbD_assignBit_same (f : Frame) {i : Nat} (b : Bool) (hi : i < 32) : (assignBit f i b).getLsbD i = b := by
  rw [getLsbD_assignBit f i i b hi hi, if_pos rfl]

theorem getLsbD_assignBit_other (f : Frame) {i j : Nat} (b : Bool) (hi : i < 32) (hj : j < 32) (hne : j ≠ i) :
    (assignBit f i b).getLsbD j = f.getLsbD j := by
  rw [getLsbD_assignBit f i j b hi hj, if_neg hne]

end Sys2Proof.Machine

namespace Sys2Proof.Proofs

open Sys2Proof.Machine

/-- Settles O4: the tick is `resetTick`, and what it makes of a source is `seenByDevice`. -/
theorem resetSetsEveryRegister : Obligations.ResetSetsEveryRegister := by
  refine ⟨fun n v c s => ?_, rfl, by decide, rfl, rfl, rfl, rfl, rfl, rfl, rfl, rfl, rfl, rfl⟩
  rw [tick_reset]
  exact ⟨resetTick_sameRegisters s, resetTick_sameHost s, fun hso => seenByDevice_no_device hso _,
    fun f k hso => seenByDevice_dev s _ f k hso⟩

/-- Settles O20: the tick is `idleTick`. -/
theorem idleTickClearsDone : Obligations.IdleTickClearsDone := by
  intro n c s hidle
  rw [tick_quiet n c s hidle, idleTick_eq]

/-- Settles O19: the row and its tick are both `idleTick`. -/
theorem reservedCodeIgnored : Obligations.ReservedCodeIgnored := by
  intro s hidle
  refine ⟨?_, fun n => ?_⟩
  · rw [exec_reserved00_idle hidle, idleTick_eq]
  · rw [tick_accept n _ s hidle, acceptTick_reserved, idleTick_eq]

/-- Settles O17: the whole effect is `initBlock_eq`; its five events are R75's in another order, and none is a
sample. -/
theorem initEffect : Obligations.InitEffect := by
  intro s hidle
  refine ⟨initBlock s, exec_init_idle s hidle, initBlock_eq s, ⟨initEvents, initBlock_trace s, by decide⟩, ?_⟩
  rw [initBlock_trace, List.filter_append, initEvents_filter_isSample, List.nil_append]

/-- Settles O29: a tick in phase SEL waits, or samples into bit 31 and raises the clock. -/
theorem selectPhaseTick : Obligations.SelectPhaseTick := by
  intro n v c s hp
  rw [tick_busy n v c s (by simp [hp])]
  refine ⟨seqTick_wait_sel n hp, fun hdly => ⟨assignBit s.shreg 31 s.soLevel, ?_, ?_, fun i hi => ?_⟩⟩
  · rw [seqTick_first_rise n hp hdly, riseTick_eq]
    rfl
  · exact getLsbD_assignBit_same _ _ (by decide)
  · exact getLsbD_assignBit_other _ _ (by decide) (by omega) (by omega)

/-- Settles O30: a tick in phase HI waits or lowers the clock. -/
theorem highPhaseTick : Obligations.HighPhaseTick := by
  intro n v c s hp
  rw [tick_busy n v c s (by simp [hp])]
  exact ⟨seqTick_wait_hi n hp, fun hdly => by rw [seqTick_fall n hp hdly, fallTick_eq]⟩

/-- Settles O31: a tick in phase LO before the last bit waits, or samples into the next bit down and raises the
clock. -/
theorem lowPhaseTick : Obligations.LowPhaseTick := by
  intro n v c s hp
  rw [tick_busy n v c s (by simp [hp])]
  refine ⟨seqTick_wait_lo n hp, fun hdly hmore =>
    ⟨assignBit s.shreg (s.bitcnt.toNat - 1) s.soLevel, ?_, ?_, fun i hi hne => ?_⟩⟩
  · rw [seqTick_next_rise n hp hdly hmore, riseTick_eq]
    rfl
  · exact getLsbD_assignBit_same _ _ (by omega)
  · exact getLsbD_assignBit_other _ _ (by omega) hi hne

end Sys2Proof.Proofs
end

section
/-! What a read of a ready block answers, as a function of the frame it acquired (43_read_commands.md R122, R123, R126,
R127). -/

namespace Sys2Proof.Machine

variable {s : State}

@[simp] theorem finishRead_shreg (b : Bool) (s : State) : (finishRead b s).shreg = s.shreg := by
  cases b
  · exact finishTc_shreg s
  · exact finishInt_shreg s

@[simp] theorem finishRead_status (b : Bool) (s : State) : (finishRead b s).status = classifyFrame s.shreg := by
  cases b
  · exact finishTc_status s
  · exact finishInt_status s

@[simp] theorem finishRead_ticks (b : Bool) (s : State) : (finishRead b s).ticks = s.ticks := by
  cases b
  · exact finishTc_ticks s
  · exact finishInt_ticks s

/-- OK and DATA after the tail of a read are the frame's answer to it. -/
theorem finishRead_response (b : Bool) (s : State) :
    (finishRead b s).ok = (readResult b (classifyFrame s.shreg) s.shreg).isSome ∧
    (finishRead b s).data = ((readResult b (classifyFrame s.shreg) s.shreg).map tc14).getD 0 :=
  finish_eq_respond s b

/-- Each of the two reads is, from every ready idle block, the same tail after an acquisition. -/
theorem exec_read_ready {i : Instr} (hi : i ∈ [Instr.rdTc, Instr.rdInt]) :
    ∃ b, ∀ s : State, s.ph = .idle → s.status ≠ .notInitialized →
      exec i s = .next (finishRead b { acquire Config.nSettle s with opsel := b }) := by
  simp only [List.mem_cons, List.not_mem_nil, or_false] at hi
  obtain rfl | rfl := hi
  · exact ⟨false, fun s hidle hready => by rw [exec_rdTc_ready hidle hready, acquire_opsel_irrelevant]; rfl⟩
  · exact ⟨true, fun s hidle hready => by rw [exec_rdInt_ready hidle hready, acquire_opsel_irrelevant]; rfl⟩

/-- A read of an uninitialized idle block is the refusal (43_read_commands.md R121, R125). -/
theorem exec_read_refused {i : Instr} (hi : i ∈ [Instr.rdTc, Instr.rdInt]) (hidle : s.ph = .idle)
    (huninit : s.status = .notInitialized) : exec i s = .next (refuseRead s) := by
  simp only [List.mem_cons, List.not_mem_nil, or_false] at hi
  obtain rfl | rfl := hi
  · rw [exec_rdTc_idle s hidle, readTc_refused _ s huninit]
  · rw [exec_rdInt_idle s hidle, readInt_refused _ s huninit]

end Sys2Proof.Machine
end

section
/-! The acquisition at the operation level (41_acquire.md sections 1 and 2): its events, its frame, and what the frame
depends on. -/

namespace Sys2Proof.Machine

/-! ### The events (41_acquire.md R81) -/

/-- The events of one iteration of the loop of ACQ with this sample, in time order (41_acquire.md R83). -/
def cycleEvents (b : Bool) : List PinEvent := [.sample b, .clock true, .delay, .clock false, .delay]

/-- The events of ACQ outside its loop. -/
def frameEvents : List PinEvent := [.select false, .delay, .select true]

theorem loopEvents_cons (b : Bool) (bits : List Bool) :
    loopEvents (b :: bits) = cycleEvents b ++ loopEvents bits := rfl

theorem acqEvents_eq (bits : List Bool) :
    acqEvents bits = [.select false, .delay] ++ loopEvents bits ++ [.select true] := rfl

/-- A kind of event that each iteration has `c` times. -/
theorem length_filter_loopEvents {p : PinEvent → Bool} {c : Nat}
    (hcycle : ∀ b, ((cycleEvents b).filter p).length = c) (bits : List Bool) :
    ((loopEvents bits).filter p).length = c * bits.length := by
  induction bits with
  | nil => rfl
  | cons b bits ih =>
    rw [loopEvents_cons, List.filter_append, List.length_append, hcycle, ih, List.length_cons, Nat.mul_succ,
      Nat.add_comm]

theorem length_filter_acqEvents {p : PinEvent → Bool} {c : Nat}
    (hcycle : ∀ b, ((cycleEvents b).filter p).length = c) (bits : List Bool) :
    ((acqEvents bits).reverse.filter p).length = c * bits.length + (frameEvents.filter p).length := by
  have hframe : frameEvents = [.select false, .delay] ++ [.select true] := rfl
  rw [List.filter_reverse, List.length_reverse, acqEvents_eq, hframe]
  simp only [List.filter_append, List.length_append, length_filter_loopEvents hcycle]
  omega

theorem length_acqEvents (bits : List Bool) : (acqEvents bits).length = 5 * bits.length + 3 := by
  have h := length_filter_acqEvents (p := fun _ => true) (c := 5) (fun _ => rfl) bits
  rwa [List.filter_true, List.length_reverse] at h

/-! ### The frame (41_acquire.md R90) -/

/-- A frame that shifts left at each bit ends with the bits, the last one in bit 0 (41_acquire.md R99). -/
theorem getLsbD_foldl_shiftConcat (bits : List Bool) (f : Frame) {i : Nat} (hi : i < 32) :
    (bits.foldl BitVec.shiftConcat f).getLsbD i =
      if i < bits.length then bits.getD (bits.length - 1 - i) false else f.getLsbD (i - bits.length) := by
  induction bits generalizing f with
  | nil => simp
  | cons b bits ih =>
    rw [List.foldl_cons, ih, List.length_cons]
    rcases Nat.lt_trichotomy i bits.length with h | h | h
    · have hindex : bits.length + 1 - 1 - i = (bits.length - 1 - i) + 1 := by omega
      rw [if_pos h, if_pos (by omega), hindex, List.getD_cons_succ]
    · subst h
      simp
    · have hpos : i - bits.length ≠ 0 := by omega
      have hindex : i - bits.length - 1 = i - (bits.length + 1) := by omega
      rw [if_neg (by omega), if_neg (by omega), BitVec.getLsbD_shiftConcat, if_neg hpos, hindex,
        decide_eq_true (by omega), Bool.true_and]

/-- The frame of an acquisition as a left-shifting register (41_acquire.md R99). -/
theorem acquire_shreg_eq_foldl (n : Nat) (s : State) :
    (acquire n s).shreg = (acqLevels n s).foldl BitVec.shiftConcat (0 : Frame) := by
  apply BitVec.eq_of_getLsbD_eq
  intro i hi
  rw [acquire_shreg, getLsbD_foldl_shiftConcat _ _ hi, length_acqLevels, if_pos hi, decide_eq_true hi, Bool.true_and]

theorem acquire_shreg_of_acqLevels {n m : Nat} {s t : State} (h : acqLevels n s = acqLevels m t) :
    (acquire n s).shreg = (acquire m t).shreg := by
  rw [acquire_shreg_eq_foldl, acquire_shreg_eq_foldl, h]

/-- Two states that an acquisition cannot tell apart: all pins driven, and select, source and draws the same. -/
structure SameSamples (s t : State) : Prop where
  left : s.pincfg = ⟨true, true, true⟩
  right : t.pincfg = ⟨true, true, true⟩
  csN : s.csN = t.csN
  so : s.so = t.so
  draws : s.draws = t.draws

theorem SameSamples.acquire_shreg {n : Nat} {s t : State} (h : SameSamples s t) :
    (acquire n s).shreg = (acquire n t).shreg := by
  obtain ⟨hleft, hright, hcsN, hso, hdraws⟩ := h
  have hsource : (selected n s).so = (selected n t).so := by
    simp [selected, State.selectWire, hleft, hright, hcsN, hso]
  exact acquire_shreg_of_acqLevels
    (loopLevels_congr n n 32 (selected n s) (selected n t) hleft hright rfl hsource hdraws)

theorem acquire_opsel_shreg (n : Nat) (b : Bool) (s : State) :
    (acquire n { s with opsel := b }).shreg = (acquire n s).shreg := by
  rw [acquire_opsel_irrelevant]

/-- An initialized block drives all its pins (10_state.md R34 (a)). -/
theorem State.Inv.pins_driven {n : Nat} {s : State} (h : s.Inv n) (hready : s.status ≠ .notInitialized) :
    s.pincfg = ⟨true, true, true⟩ := by
  have hcode : s.pincfg.code = 0b111#3 := by simpa [hready] using h.config
  generalize s.pincfg = p at hcode
  obtain ⟨a, b, c⟩ := p
  revert a b c
  decide

/-- DEV(F) facing an idle block that drives its pins gives its frame (20_memory.md R54). -/
theorem acquire_shreg_dev (n : Nat) {s : State} {f : Frame} {k : Nat} (hso : s.so = .dev f k)
    (hpins : s.pincfg = ⟨true, true, true⟩) (hcsN : s.csN = true) : (acquire n s).shreg = f := by
  apply BitVec.eq_of_getLsbD_eq
  intro i hi
  have hindex : 31 - (31 - i) = i := by omega
  have hlt : 31 - i < 32 := by omega
  rw [acquire_shreg, acqLevels_dev n s f k hso hpins hcsN]
  simp [hi, hindex, hlt, List.getD]

/-- A line that stands still for 32 samples makes a frame of equal bits. -/
theorem acquire_shreg_stuck (n : Nat) {s : State} {b : Bool} {rest : List Bool}
    (hso : s.so = .script (List.replicate 32 b ++ rest)) :
    (acquire n s).shreg = if b then 0xFFFFFFFF#32 else 0x00000000#32 := by
  apply BitVec.eq_of_getLsbD_eq
  intro i hi
  have hlevel : (List.replicate 32 b).getD (31 - i) false = b := List.getD_replicate b (by omega)
  rw [acquire_shreg, acqLevels_script n s _ rest List.length_replicate hso, hlevel, decide_eq_true hi, Bool.true_and]
  cases b with
  | false => exact BitVec.getLsbD_zero.symm
  | true => exact (BitVec.getLsbD_allOnes.trans (decide_eq_true hi)).symm

end Sys2Proof.Machine

namespace Sys2Proof.Proofs

open Sys2Proof.Machine

/-- Settles O21: field by field, with the 32 levels read as the samples. -/
theorem acquisitionEffect : Obligations.AcquisitionEffect := by
  intro s hidle hready
  refine ⟨acquire Config.nSettle s, acqLevels Config.nSettle s, exec_acq_ready hidle hready, length_acqLevels _ s,
    fun k hk => ?_, acquire_trace _ s, acquire_ticks _ s, acquire_draws _ s, acquire_moves _ s,
    acquire_rested _ s hidle, acquire_sameHost _ s, acquire_done _ s, acquire_status _ s, acquire_opsel _ s,
    acquire_ok _ s, acquire_data _ s, acquire_clsOut _ s, acquire_extOut _ s⟩
  have hindex : 31 - (31 - k) = k := by omega
  rw [acquire_shreg, hindex, decide_eq_true (by omega), Bool.true_and]

/-- Settles O22: an iteration has two pin writes, one sample and two delays, and the rest of ACQ two writes and a
delay. -/
theorem acquisitionEventCounts : Obligations.AcquisitionEventCounts := by
  intro s hidle hready
  refine ⟨acquire Config.nSettle s, (acqEvents (acqLevels Config.nSettle s)).reverse, exec_acq_ready hidle hready,
    acquire_trace _ s, ?_, ?_, ?_, ?_⟩
  · rw [length_filter_acqEvents (c := 2) (fun _ => rfl), length_acqLevels]; rfl
  · rw [length_filter_acqEvents (c := 1) (fun _ => rfl), length_acqLevels]; rfl
  · rw [length_filter_acqEvents (c := 2) (fun _ => rfl), length_acqLevels]; rfl
  · rw [List.length_reverse, length_acqEvents, length_acqLevels]

/-- Settles O24: bit i of either is the sample 31 - i. -/
theorem shiftRegisterForm : Obligations.ShiftRegisterForm := by
  intro s bits rest hidle hready hlen hso
  refine ⟨acquire Config.nSettle s, exec_acq_ready hidle hready, ?_⟩
  rw [acquire_shreg_eq_foldl, acqLevels_script _ s bits rest hlen hso]

/-- Settles O25: an initialized idle block drives its pins and holds select high, so the device starts afresh; the tick
level is the operation level run in ticks. -/
theorem referenceDeviceFrame : Obligations.ReferenceDeviceFrame := by
  intro s f k hinv hidle hready hso
  have hpins := hinv.pins_driven hready
  have hcsN := hinv.csN_idle hidle
  refine ⟨⟨_, exec_acq_ready hidle hready, acquire_shreg_dev _ hso hpins hcsN⟩, fun n c hn hc => ?_⟩
  rw [read_ticks n hn hidle hready hc, finishRead_shreg, acquire_opsel_shreg, acquire_shreg_dev n hso hpins hcsN]

/-- Settles O26: the row tests STATUS before anything else. -/
theorem acquisitionNeedsInit : Obligations.AcquisitionNeedsInit := fun _ huninit => if_pos huninit

/-- Settles O27: the samples are the same, and the frame is the samples. -/
theorem frameIndependentOfRegisters : Obligations.FrameIndependentOfRegisters := by
  intro s t hs ht hreadyS hreadyT hpinsS hpinsT hcsN hso hdraws
  exact ⟨_, _, exec_acq_ready hs hreadyS, exec_acq_ready ht hreadyT,
    (SameSamples.mk hpinsS hpinsT hcsN hso hdraws).acquire_shreg⟩

end Sys2Proof.Proofs
end

section
/-! The two reads in numbers (43_read_commands.md sections RD_TC and RD_INT), and what their answers depend on. -/

namespace Sys2Proof.Machine

variable {s : State} {f : Frame} {rest : List Bool}

/-- The next samples on `so` are the frame `f`, most significant bit first. -/
def State.Presents (s : State) (f : Frame) (rest : List Bool) : Prop :=
  s.so = .script ((List.range 32).map (fun k => f.getLsbD (31 - k)) ++ rest)

/-- RD_TC of the frame `f` in numbers. -/
theorem readTc_of_frame (n : Nat) (hready : s.status ≠ .notInitialized) (hso : s.Presents f rest) :
    (readTc n s).status = classifyFrame f ∧ (readTc n s).ok = (classifyFrame f == .none) ∧
    (readTc n s).data.toInt = if classifyFrame f = .none then tcCount f else 0 := by
  have hframe : (acquire n { s with opsel := false }).shreg = f := acquire_shreg_of_frame n _ f rest hso
  rw [readTc_ready n s hready, finishTc_status, finishTc_ok, finishTc_data, hframe]
  refine ⟨rfl, rfl, ?_⟩
  split
  · exact tc14_tcCount f
  · rfl

/-- RD_INT of the frame `f` in numbers. -/
theorem readInt_of_frame (n : Nat) (hready : s.status ≠ .notInitialized) (hso : s.Presents f rest) :
    (readInt n s).status = classifyFrame f ∧ (readInt n s).ok = (classifyFrame f != .readError) ∧
    (readInt n s).data.toInt = if classifyFrame f = .readError then 0 else intCount f := by
  have hframe : (acquire n { s with opsel := true }).shreg = f := acquire_shreg_of_frame n _ f rest hso
  rw [readInt_ready n s hready, finishInt_status, finishInt_ok, finishInt_data, hframe]
  refine ⟨rfl, rfl, ?_⟩
  split
  · rfl
  · exact tc14_intCount f

/-- A frame of zeros is a good reading of 0 for either read (70_reset_and_hazards.md R186). -/
theorem readResult_zeros (b : Bool) : classifyFrame 0x00000000#32 = .none ∧
    readResult b .none 0x00000000#32 = some 0 := by cases b <;> decide

/-- A frame of ones is a READ_ERROR and no value for either read (70_reset_and_hazards.md R186). -/
theorem readResult_ones (b : Bool) : classifyFrame 0xFFFFFFFF#32 = .readError ∧
    readResult b .readError 0xFFFFFFFF#32 = none := by cases b <;> decide

end Sys2Proof.Machine

namespace Sys2Proof.Proofs

open Sys2Proof.Machine

/-- Settles O46: the frame acquired is F, and the tail of the read delivers F's count, which `data` holds exactly. -/
theorem readsDeliverTheFrame : Obligations.ReadsDeliverTheFrame := by
  intro s f rest hidle hready hso
  exact ⟨⟨_, exec_rdTc_idle s hidle, readTc_of_frame _ hready hso⟩,
    ⟨_, exec_rdInt_idle s hidle, readInt_of_frame _ hready hso⟩⟩

/-- Settles O47: the answer is a function of the frame, and the frame is the same. -/
theorem readsForgetThePast : Obligations.ReadsForgetThePast := by
  intro s t hs ht hreadyS hreadyT hpinsS hpinsT hcsN hso hdraws i hi
  obtain ⟨b, hexec⟩ := exec_read_ready hi
  refine ⟨_, _, hexec s hs hreadyS, hexec t ht hreadyT, ?_⟩
  have hframe := (SameSamples.mk hpinsS hpinsT hcsN hso hdraws).acquire_shreg (n := Config.nSettle)
  simp only [finishRead_status, finishRead_response, hframe, and_self]

/-- Settles O48: the frame is all zeros or all ones. -/
theorem stuckDataLine : Obligations.StuckDataLine := by
  intro s b rest hidle hready hso i hi
  obtain ⟨op, hexec⟩ := exec_read_ready hi
  refine ⟨_, hexec s hidle hready, ?_⟩
  have hframe := acquire_shreg_stuck Config.nSettle hso
  simp only [finishRead_shreg, finishRead_status, finishRead_response, hframe]
  cases b with
  | false =>
    obtain ⟨hclass, hvalue⟩ := readResult_zeros op
    simp [hclass, hvalue, tc14]
  | true =>
    obtain ⟨hclass, hvalue⟩ := readResult_ones op
    simp [hclass, hvalue]

/-- Settles O49: INIT and the refusal take one tick, an acquisition 65 delays more. -/
theorem commandDurations : Obligations.CommandDurations := by
  refine ⟨fun s hidle => ⟨_, exec_init_idle s hidle, rfl⟩, fun s hidle i hi => ?_⟩
  by_cases hready : s.status = .notInitialized
  · exact ⟨_, exec_read_refused hi hidle hready, fun _ => rfl, fun h => absurd hready h⟩
  · obtain ⟨b, hexec⟩ := exec_read_ready hi
    exact ⟨_, hexec s hidle hready, fun h => absurd h hready,
      fun _ => by rw [finishRead_ticks]; exact acquire_ticks Config.nSettle s⟩

end Sys2Proof.Proofs
end

section
/-! The schedule of an acquisition (41_acquire.md R92): what the sequencer's registers are j ticks after the start tick,
and what the next tick does. -/

namespace Sys2Proof.Machine

variable {n j : Nat} {s t : State}

/-- The registers of the sequencer `j` ticks after the start tick: it is in the settle delay number `j / n`, with what
is left of it in DLY. -/
structure AcquiringAt (n j : Nat) (t : State) : Prop where
  ph : t.ph = phaseOf (j / n)
  dly : t.dly = n - 1 - j % n
  done : t.done = false
  csN : t.csN = false
  bitcnt : t.bitcnt = BitVec.ofNat 5 (31 - (j / n - 1) / 2)
  sck : t.sck = decide (phaseOf (j / n) = .hi)

theorem phaseOf_ne_idle (q : Nat) : phaseOf q ≠ .idle := by
  unfold phaseOf
  split_ifs <;> decide

theorem phaseOf_even {k : Nat} (hk : k ≠ 0) : phaseOf (2 * k) = .lo := by
  rw [phaseOf, if_neg (by omega), if_neg (by omega)]

theorem phaseOf_odd (k : Nat) : phaseOf (2 * k + 1) = .hi := by
  rw [phaseOf, if_neg (by omega), if_pos (by omega)]

theorem acquiringAt_seqTicks (b : Bool) (hn : 1 ≤ n) (hsck : s.sck = false) (hj : j < 65 * n) :
    AcquiringAt n j (seqTicks n j (startAcq n b s)) := by
  have hq : j / n < 65 := Nat.div_lt_of_lt_mul (by rwa [Nat.mul_comm])
  obtain ⟨X, hepoch, hdone, hcsN, hbitcnt, hlater, hfirst⟩ := acquisition_epoch n b s hn (j / n) (by omega)
  have hstate := acquisition_at n b s hn (j / n) (j % n) (Nat.mod_lt j hn) X hepoch hdone
  rw [Nat.div_add_mod] at hstate
  rw [hstate]
  refine ⟨rfl, rfl, hdone, hcsN, hbitcnt, ?_⟩
  by_cases hzero : j / n = 0
  · exact (hfirst hzero).trans (by simp [hsck, hzero, phaseOf])
  · exact hlater hzero

theorem AcquiringAt.busy (h : AcquiringAt n j t) : t.ph ≠ .idle := by
  rw [h.ph]
  exact phaseOf_ne_idle _

/-- The delay number `q` ends at tick `n * (q + 1)`. -/
theorem delay_ends {q : Nat} (hn : 1 ≤ n) (h : j + 1 = n * (q + 1)) : j / n = q ∧ j % n = n - 1 := by
  rw [Nat.mul_succ] at h
  exact (Nat.div_mod_unique hn).2 ⟨by omega, by omega⟩

theorem AcquiringAt.dly_zero (h : AcquiringAt n j t) (hmod : j % n = n - 1) : t.dly = 0 := by
  rw [h.dly, hmod, Nat.sub_self]

/-- The tick `n * (2 k + 1)` samples into bit `31 - k` and raises the clock. -/
theorem AcquiringAt.rise {k : Nat} (h : AcquiringAt n j t) (hn : 1 ≤ n) (hk : k ≤ 31) (hj : j + 1 = n * (2 * k + 1)) :
    t.sck = false ∧ (seqTick n t).sck = true ∧ (seqTick n t).shreg.getLsbD (31 - k) = t.soLevel ∧
      (seqTick n t).trace = .delay :: .clock true :: .sample t.soLevel :: t.trace := by
  obtain ⟨hdiv, hmod⟩ := delay_ends hn hj
  have hdly := h.dly_zero hmod
  have hph := h.ph
  have hsck := h.sck
  rw [hdiv] at hph hsck
  by_cases hzero : k = 0
  · subst hzero
    rw [seqTick_first_rise n hph hdly, riseTick_eq]
    exact ⟨hsck, rfl, getLsbD_assignBit_same _ _ (by decide), rfl⟩
  · rw [phaseOf_even hzero] at hph hsck
    have hindex : 31 - (2 * k - 1) / 2 = 32 - k := by omega
    have hbitcnt : t.bitcnt = BitVec.ofNat 5 (32 - k) := by rw [h.bitcnt, hdiv, hindex]
    have htoNat : t.bitcnt.toNat = 32 - k := by rw [hbitcnt, BitVec.toNat_ofNat]; omega
    have hmore : t.bitcnt ≠ 0 := fun h0 => by rw [h0] at htoNat; simp at htoNat; omega
    have hbit : t.bitcnt.toNat - 1 = 31 - k := by omega
    rw [seqTick_next_rise n hph hdly hmore, riseTick_eq, hbit]
    exact ⟨hsck, rfl, getLsbD_assignBit_same _ _ (by omega), rfl⟩

/-- The tick `n * (2 k + 2)` lowers the clock. -/
theorem AcquiringAt.fall {k : Nat} (h : AcquiringAt n j t) (hn : 1 ≤ n) (hj : j + 1 = n * (2 * k + 2)) :
    t.sck = true ∧ (seqTick n t).sck = false ∧ (seqTick n t).trace = .delay :: .clock false :: t.trace := by
  obtain ⟨hdiv, hmod⟩ := delay_ends hn hj
  have hph := h.ph
  have hsck := h.sck
  rw [hdiv, phaseOf_odd] at hph hsck
  rw [seqTick_fall n hph (h.dly_zero hmod), fallTick_eq]
  exact ⟨hsck, rfl, rfl⟩

/-- The tick `65 * n` completes the read. -/
theorem AcquiringAt.complete (h : AcquiringAt n j t) (hn : 1 ≤ n) (hj : j + 1 = 65 * n) :
    seqTick n t = completeTick t := by
  obtain ⟨hdiv, hmod⟩ := delay_ends (q := 64) hn (by rw [hj, Nat.mul_comm])
  have hph := h.ph
  have hbitcnt := h.bitcnt
  rw [hdiv] at hph hbitcnt
  exact seqTick_complete t n hph (h.dly_zero hmod) hbitcnt

/-- A tick that ends no delay does nothing to the pins. -/
theorem seqTick_wait_trace (n : Nat) (hbusy : t.ph ≠ .idle) (hdly : t.dly ≠ 0) : (seqTick n t).trace = t.trace := by
  cases hp : t.ph with
  | idle => exact absurd hp hbusy
  | sel => rw [seqTick_wait_sel n hp hdly]
  | hi => rw [seqTick_wait_hi n hp hdly]
  | lo => rw [seqTick_wait_lo n hp hdly]

/-- Every delay ends at one of the ticks of the schedule. -/
theorem AcquiringAt.wait (h : AcquiringAt n j t) (hn : 1 ≤ n) (hj : j < 65 * n)
    (hclock : ∀ k, k ≤ 31 → j + 1 ≠ n * (2 * k + 1) ∧ j + 1 ≠ n * (2 * k + 2)) (hlast : j + 1 ≠ 65 * n) :
    (seqTick n t).trace = t.trace := by
  refine seqTick_wait_trace n h.busy fun hdly => ?_
  have hq : j / n < 65 := Nat.div_lt_of_lt_mul (by rwa [Nat.mul_comm])
  have hends : j + 1 = n * (j / n + 1) := by
    have hmod := Nat.mod_lt j hn
    have hdiv := Nat.div_add_mod j n
    rw [h.dly] at hdly
    rw [Nat.mul_succ]
    omega
  have hnot_last : j / n + 1 ≠ 65 := fun hend => hlast (by rw [hends, hend, Nat.mul_comm])
  obtain ⟨hrise, hfall⟩ := hclock (j / n / 2) (by omega)
  obtain heven | hodd : j / n + 1 = 2 * (j / n / 2) + 1 ∨ j / n + 1 = 2 * (j / n / 2) + 2 := by omega
  · exact hrise (by rw [← heven, ← hends])
  · exact hfall (by rw [← hodd, ← hends])

end Sys2Proof.Machine

namespace Sys2Proof.Proofs

open Sys2Proof.Machine

/-- Settles O33: before tick 65 N the registers are those of the schedule, and each kind of tick follows from them. -/
theorem acquisitionSchedule : Obligations.AcquisitionSchedule := by
  intro n c s hinv hidle hready hc
  have hn := hinv.nSettle_pos
  have hacq : ∀ j, j < 65 * n → AcquiringAt n j (seqTicks n j (tick n false true c s)) := by
    intro j hj
    rw [tick_read_ready n hidle hready hc]
    exact acquiringAt_seqTicks _ hn (hinv.sck_low (by simp [hidle])) hj
  obtain ⟨m, hm⟩ : ∃ m, m + 1 = 65 * n := ⟨65 * n - 1, by omega⟩
  have hend : seqTicks n (65 * n) (tick n false true c s) = completeTick (seqTicks n m (tick n false true c s)) := by
    rw [← hm, seqTicks_succ, (hacq m (by omega)).complete hn hm]
  refine ⟨(hacq 0 (by omega)).csN, fun j hj => ?_, fun j hj => ?_, ?_⟩
  · obtain ⟨-, -, hdone, hcsN, -, -⟩ := hacq j hj
    exact ⟨hcsN, beq_false_of_ne (hacq j hj).busy, hdone⟩
  · have hat := hacq j (by omega)
    simp only [seqTicks_succ]
    refine ⟨fun k hk hj => ?_, fun k _ hj => ?_, fun hj => ?_, hat.wait hn (by omega)⟩
    · obtain ⟨hlow, hhigh, hsample, htrace⟩ := hat.rise hn hk hj
      exact ⟨hhigh, hlow, hsample, htrace⟩
    · obtain ⟨hhigh, hlow, htrace⟩ := hat.fall hn hj
      exact ⟨hlow, hhigh, htrace⟩
    · rw [hat.complete hn hj, completeTick_frame]
  · have hrest : (seqTicks n (65 * n) (tick n false true c s)).ph = .idle := by rw [hend, completeTick_frame]
    refine ⟨?_, beq_iff_eq.2 hrest, ?_, fun c' => ?_⟩ <;> dsimp only
    · rw [hend, completeTick_frame]
    · rw [hend, completeTick_frame]
    · rw [tick_quiet n c' _ hrest, idleTick_done]

end Sys2Proof.Proofs
end

section
/-! The reference device follows its wires (20_memory.md R46), whatever moves them. -/

namespace Sys2Proof.Machine

variable {s t : State} {f : Frame} {k : Nat}

/-! ### The count after an edge of either wire, or of both -/

/-- DEV's count after its select wire has gone from `sel` to `sel'`. -/
def countAfterSelect (sel sel' : Bool) (k : Nat) : Nat := if sel && !sel' then 0 else k

/-- DEV's count after its clock wire has gone from `clk` to `clk'` with select at `sel`. -/
def countAfterClock (sel clk clk' : Bool) (k : Nat) : Nat := if !sel && clk && !clk' then k + 1 else k

/-- DEV's count after both wires have moved at once, select seen before the clock or after it. -/
def countAfter (selectFirst sel sel' clk clk' : Bool) (k : Nat) : Nat :=
  if selectFirst then countAfterClock sel' clk clk' (countAfterSelect sel sel' k)
  else countAfterSelect sel sel' (countAfterClock sel clk clk' k)

theorem seenByDevice_eq_countAfter (hso : s.so = .dev f k) (t : State) :
    seenByDevice s t = .dev f (countAfter (Config.selectFirst s.ticks s.moves) s.selectWire t.selectWire s.clockWire
      t.clockWire k) := by
  unfold seenByDevice countAfter
  rw [hso]
  cases Config.selectFirst s.ticks s.moves <;> rfl

section

variable (selectFirst : Bool) {sel sel' clk clk' : Bool} (k : Nat)

theorem countAfterSelect_no_fall (hsel : ¬(sel = true ∧ sel' = false)) : countAfterSelect sel sel' k = k :=
  if_neg (by simpa using hsel)

theorem countAfterClock_no_fall (hclk : ¬(clk = true ∧ clk' = false)) (level : Bool) :
    countAfterClock level clk clk' k = k :=
  if_neg fun h => hclk (by simp_all)

theorem countAfter_no_fall (hsel : ¬(sel = true ∧ sel' = false)) (hclk : ¬(clk = true ∧ clk' = false)) :
    countAfter selectFirst sel sel' clk clk' k = k := by
  simp only [countAfter, countAfterSelect_no_fall _ hsel, countAfterClock_no_fall _ hclk, ite_self]

theorem countAfter_deselected (clk clk' : Bool) : countAfter selectFirst true true clk clk' k = k := by
  cases selectFirst <;> rfl

theorem countAfter_select_falls (hclk : ¬(clk = true ∧ clk' = false)) :
    countAfter selectFirst true false clk clk' k = 0 := by
  cases selectFirst with
  | false => rfl
  | true => exact countAfterClock_no_fall 0 hclk false

theorem countAfter_clock_falls : countAfter selectFirst false false true false k = k + 1 := by
  cases selectFirst <;> rfl

/-- When both wires move, a falling select zeroes the count and the clock's edge is counted after it or not; a rising
select leaves it and the edge is counted before it or not. -/
theorem countAfter_both (hne : sel ≠ sel') :
    if sel' then countAfter selectFirst sel sel' true false k = k ∨ countAfter selectFirst sel sel' true false k = k + 1
    else countAfter selectFirst sel sel' true false k = 0 ∨ countAfter selectFirst sel sel' true false k = 1 := by
  obtain rfl : sel = !sel' := Bool.eq_not.2 hne
  cases sel' <;> cases selectFirst <;> simp [countAfter, countAfterSelect, countAfterClock]

end

/-! ### A tick, and the time between two acts -/

theorem deviceOnClock_still (select level : Bool) (l : SoSource) : deviceOnClock select level level l = l := by
  cases l <;> cases level <;> simp [deviceOnClock]

theorem sees_of_select_still (hsel : t.selectWire = s.selectWire)
    (hso : t.so = deviceOnClock s.selectWire s.clockWire t.clockWire s.so) : t.so = seenByDevice s t := by
  rw [hso, seenByDevice_select_still s t hsel]

theorem sees_of_clock_still (hclk : t.clockWire = s.clockWire)
    (hso : t.so = deviceOnSelect s.selectWire t.selectWire s.so) : t.so = seenByDevice s t := by
  rw [hso, seenByDevice_clock_still s t hclk]

theorem sees_of_wires_still (hsel : t.selectWire = s.selectWire) (hclk : t.clockWire = s.clockWire)
    (hso : t.so = s.so) : t.so = seenByDevice s t :=
  sees_of_select_still hsel (by rw [hso, hclk, deviceOnClock_still])

theorem completeTick_so (s : State) : (completeTick s).so = (deselect s).so := by
  rw [completeTick_eq]
  cases s.opsel
  · exact finishTc_so (deselect s)
  · exact finishInt_so (deselect s)

/-- The sample of DEV(F) leaves it where it is, so a rising tick is what it sees of the clock. -/
theorem riseTick_so_dev (n i : Nat) (hso : s.so = .dev f k) :
    (riseTick n i s).so = seenByDevice s (riseTick n i s) := by
  have hsource : sourceAfterSample s.so = s.so := by rw [hso]; rfl
  rw [riseTick_eq, hsource]
  exact sees_of_select_still rfl rfl

/-- What the ticks of an acquisition make of DEV(F) is what it sees of the wires. -/
theorem seqTick_so_dev (n : Nat) (hso : s.so = .dev f k) : (seqTick n s).so = seenByDevice s (seqTick n s) := by
  obtain ⟨-, e⟩ | ⟨-, -, e⟩ | ⟨-, -, e⟩ | ⟨-, -, e⟩ | ⟨-, -, e⟩ | ⟨-, -, e⟩ | ⟨-, -, -, e⟩ | ⟨-, -, -, e⟩ :=
    seqTick_cases n s <;> rw [e]
  · exact sees_of_wires_still rfl rfl rfl
  · exact sees_of_wires_still rfl rfl rfl
  · exact riseTick_so_dev (s := { s with done := false }) n _ hso
  · exact sees_of_wires_still rfl rfl rfl
  · exact sees_of_select_still rfl rfl
  · exact sees_of_wires_still rfl rfl rfl
  · exact riseTick_so_dev (s := { s with bitcnt := s.bitcnt - 1 }) n _ hso
  · have hselect : (completeTick s).selectWire = (deselect s).selectWire := by rw [completeTick_frame]; rfl
    have hclock : (completeTick s).clockWire = s.clockWire := by rw [completeTick_frame]; rfl
    exact sees_of_clock_still hclock (by rw [completeTick_so, hselect]; rfl)

theorem tick_so_dev (n : Nat) (r v : Bool) (c : BitVec 2) (hso : s.so = .dev f k) :
    (tick n r v c s).so = seenByDevice s (tick n r v c s) := by
  obtain ⟨-, e⟩ | ⟨-, e⟩ | ⟨-, e⟩ | ⟨-, -, e⟩ | ⟨-, -, b, e⟩ | ⟨-, e⟩ := tick_cases n r v c s <;> rw [e]
  · rfl
  · rfl
  · exact sees_of_wires_still rfl rfl rfl
  · exact sees_of_wires_still rfl rfl rfl
  · exact sees_of_clock_still rfl rfl
  · exact seqTick_so_dev n hso

theorem nextAct_so (s : State) : (nextAct s).so = seenByDevice s (nextAct s) := by
  obtain ⟨a, as, d, h⟩ := nextAct_eq s
  rw [h]
  rfl

/-- While select is low DEV(F) presents F[31 - n] (20_memory.md R46). -/
theorem soLevel_dev (hso : s.so = .dev f k) (hsel : s.selectWire = false) (hk : k ≤ 31) :
    s.soLevel = f.getLsbD (31 - k) := by
  simp [State.soLevel, hso, hsel, hk]

end Sys2Proof.Machine

namespace Sys2Proof.Proofs

open Sys2Proof.Machine

/-- Settles O59: at a tick and between two acts the device is what it makes of the wires before and after, and its count
is read off the edges. -/
theorem deviceFollowsTheWires : Obligations.DeviceFollowsTheWires := by
  intro n rst v c s t f k hso ht
  have hsees : t.so = seenByDevice s t := by
    obtain rfl | rfl := ht
    · exact tick_so_dev n rst v c hso
    · exact nextAct_so s
  refine ⟨soLevel_dev hso, _, hsees.trans (seenByDevice_eq_countAfter hso t), countAfter_no_fall _ k,
    fun hs ht => ?_, fun hsel hclk => ?_, fun hs ht hclk => ?_, fun hne hclk => ?_⟩
  · rw [hs, ht, countAfter_deselected]
  · rw [hsel.1, hsel.2, countAfter_select_falls _ k hclk]
  · rw [hs, ht, hclk.1, hclk.2, countAfter_clock_falls]
  · rw [hclk.1, hclk.2]
    exact countAfter_both _ k hne

end Sys2Proof.Proofs
end

section
/-! The host-side view (44_host_view.md): temperatures in degrees, and the rows that read and convert in one. -/

namespace Sys2Proof.Machine

variable {s : State} {f : Frame} {rest : List Bool}

/-! ### The rows -/

theorem exec_celsiusTc (s : State) : exec .celsiusTc s = .next (runCelsius tcLsb s) := rfl
theorem exec_celsiusInt (s : State) : exec .celsiusInt s = .next (runCelsius intLsb s) := rfl
theorem exec_cToF (s : State) : exec .cToF s = .next (runFahrenheit s) := rfl

theorem exec_rdTcC_idle (hidle : s.ph = .idle) :
    exec .rdTcC s = .next (runCelsius tcLsb (readTc Config.nSettle s)) :=
  congrArg Host.Outcome.next (offer_idle s _ hidle)

theorem exec_rdIntC_idle (hidle : s.ph = .idle) :
    exec .rdIntC s = .next (runCelsius intLsb (readInt Config.nSettle s)) :=
  congrArg Host.Outcome.next (offer_idle s _ hidle)

theorem exec_rdTcF_idle (hidle : s.ph = .idle) :
    exec .rdTcF s = .next (runFahrenheit (runCelsius tcLsb (readTc Config.nSettle s))) :=
  congrArg Host.Outcome.next (offer_idle s _ hidle)

theorem exec_rdIntF_idle (hidle : s.ph = .idle) :
    exec .rdIntF s = .next (runFahrenheit (runCelsius intLsb (readInt Config.nSettle s))) :=
  congrArg Host.Outcome.next (offer_idle s _ hidle)

/-! ### What the conversions write and leave -/

theorem runCelsius_sameLink (lsb : Rat) (s : State) : SameLink s (runCelsius lsb s) := by constructor <;> rfl

theorem runFahrenheit_sameLink (s : State) : SameLink s (runFahrenheit s) := by constructor <;> rfl

theorem runCelsius_temp (lsb : Rat) (s : State) : (runCelsius lsb s).temp = celsius lsb s.ok s.count := rfl

theorem runFahrenheit_temp (s : State) : (runFahrenheit s).temp = fahrenheit s.temp := rfl

/-- Both readings of a Celsius value are NaN together, and else the same number. -/
theorem celsius_readings_agree (z : Bool) (lsb : Rat) (ok : Bool) (count : Int) :
    (celsius lsb ok count = .nan ↔ floatCelsius z lsb ok count = .nan) ∧
    ∀ q, celsius lsb ok count = .num q ↔ ∃ neg, floatCelsius z lsb ok count = .num q neg := by
  cases ok <;> simp [celsius, floatCelsius, floatNum]

/-- A conversion of a response without a value is NaN in both readings (44_host_view.md R136). -/
theorem runCelsius_not_ok (lsb : Rat) (hok : s.ok = false) :
    (runCelsius lsb s).temp = .nan ∧ (runCelsius lsb s).ftemp = .nan := by
  simp [runCelsius, celsius, floatCelsius, hok]

/-- NaN stays NaN in both readings (44_host_view.md R140). -/
theorem runFahrenheit_nan (h : s.temp = .nan ∧ s.ftemp = .nan) :
    (runFahrenheit s).temp = .nan ∧ (runFahrenheit s).ftemp = .nan := by
  simp [runFahrenheit, fahrenheit, floatFahrenheit, h]

theorem runCelsius_runFahrenheit_temp_ok (lsb : Rat) (hok : s.ok = true) :
    (runFahrenheit (runCelsius lsb s)).temp = .num (s.data.toInt * lsb * (9 / 5) + 32) := by
  simp [runFahrenheit_temp, runCelsius_temp, celsius, fahrenheit, State.count, hok]

theorem runCelsius_runFahrenheit_temp_not_ok (lsb : Rat) (hok : s.ok = false) :
    (runFahrenheit (runCelsius lsb s)).temp = .nan :=
  (runFahrenheit_nan (runCelsius_not_ok lsb hok)).1

end Sys2Proof.Machine

namespace Sys2Proof.Proofs

open Sys2Proof.Machine

/-- Settles O50: the result is `celsius` of the ports, and nothing else of the block or the link moves. -/
theorem celsiusEffect : Obligations.CelsiusEffect := fun s =>
  ⟨⟨_, exec_celsiusTc s, rfl, runCelsius_sameRegisters _ s, runCelsius_sameLink _ s, rfl, rfl, rfl, rfl, rfl, rfl⟩,
    ⟨_, exec_celsiusInt s, rfl, runCelsius_sameRegisters _ s, runCelsius_sameLink _ s, rfl, rfl, rfl, rfl, rfl, rfl⟩⟩

/-- Settles O51: either row is one conversion, whose two readings agree. -/
theorem floatCelsiusIsExact : Obligations.FloatCelsiusIsExact := by
  intro s i hi
  simp only [List.mem_cons, List.not_mem_nil, or_false] at hi
  obtain rfl | rfl := hi
  · exact ⟨_, exec_celsiusTc s, celsius_readings_agree _ _ _ _⟩
  · exact ⟨_, exec_celsiusInt s, celsius_readings_agree _ _ _ _⟩

/-- Settles O52: reading by reading, NaN and numbers apart. -/
theorem fahrenheitEffect : Obligations.FahrenheitEffect := by
  intro s
  refine ⟨_, exec_cToF s, fun h => ?_, fun q h => ?_, fun h => ?_, fun q neg h => ?_, runFahrenheit_sameRegisters s,
    runFahrenheit_sameLink s, rfl, rfl, rfl, rfl, rfl, rfl⟩
  · rw [runFahrenheit_temp, h, fahrenheit]
  · rw [runFahrenheit_temp, h, fahrenheit, mul_div_assoc]
  · simp [runFahrenheit, floatFahrenheit, h]
  · simp [runFahrenheit, floatFahrenheit, floatNum, h]

/-- Settles O53: in an idle block each row is offered and taken whole. -/
theorem pseudoReadsExpand : Obligations.PseudoReadsExpand := fun s hidle =>
  ⟨⟨_, _, _, exec_rdTc_idle s hidle, exec_celsiusTc _, exec_cToF _, exec_rdTcC_idle hidle, exec_rdTcF_idle hidle⟩,
    ⟨_, _, _, exec_rdInt_idle s hidle, exec_celsiusInt _, exec_cToF _, exec_rdIntC_idle hidle, exec_rdIntF_idle hidle⟩⟩

/-- Settles O54: the read gives the count of F or no value, and the two conversions make degrees of it. -/
theorem fahrenheitOfTheFrame : Obligations.FahrenheitOfTheFrame := by
  intro s f rest hidle hready hso
  obtain ⟨-, htcOk, htcData⟩ := readTc_of_frame Config.nSettle hready hso
  obtain ⟨-, hintOk, hintData⟩ := readInt_of_frame Config.nSettle hready hso
  refine ⟨⟨_, exec_rdTcF_idle hidle, ?_⟩, ⟨_, exec_rdIntF_idle hidle, ?_⟩⟩
  · split
    next hclass =>
      rw [runCelsius_runFahrenheit_temp_ok _ (by simp [htcOk, hclass]), htcData, if_pos hclass, tcLsb]
      congr 1
      ring
    next hclass => exact runCelsius_runFahrenheit_temp_not_ok _ (by simp [htcOk, hclass])
  · split
    next hclass => exact runCelsius_runFahrenheit_temp_not_ok _ (by simp [hintOk, hclass])
    next hclass =>
      rw [runCelsius_runFahrenheit_temp_ok _ (by simp [hintOk, hclass]), hintData, if_neg hclass, intLsb]
      congr 1
      ring

/-- Settles O56: the read is refused with no value, which every conversion turns into NaN. -/
theorem uninitializedGetters : Obligations.UninitializedGetters := by
  intro s hidle huninit
  refine ⟨fun i hi => ?_, _, exec_getErr s, huninit⟩
  have htc : readTc Config.nSettle s = refuseRead s := readTc_refused _ s huninit
  have hint : readInt Config.nSettle s = refuseRead s := readInt_refused _ s huninit
  have hnan (lsb : Rat) := runCelsius_not_ok (s := refuseRead s) lsb rfl
  simp only [List.mem_cons, List.not_mem_nil, or_false] at hi
  obtain rfl | rfl | rfl | rfl := hi
  · rw [exec_rdTcC_idle hidle, htc]
    exact ⟨_, rfl, (hnan _).1, (hnan _).2, huninit, rfl⟩
  · rw [exec_rdIntC_idle hidle, hint]
    exact ⟨_, rfl, (hnan _).1, (hnan _).2, huninit, rfl⟩
  · rw [exec_rdTcF_idle hidle, htc]
    exact ⟨_, rfl, (runFahrenheit_nan (hnan _)).1, (runFahrenheit_nan (hnan _)).2, huninit, rfl⟩
  · rw [exec_rdIntF_idle hidle, hint]
    exact ⟨_, rfl, (runFahrenheit_nan (hnan _)).1, (runFahrenheit_nan (hnan _)).2, huninit, rfl⟩

end Sys2Proof.Proofs
end

section
/-! Several blocks side by side (60_exceptions.md R167, R168). -/

namespace Sys2Proof.Machine

variable {k : Nat} {bs cs : List Block} {b : Block} {t : State}

/-- Block `k` making its own step is the system making it. -/
theorem stepAt_of_step (hb : bs[k]? = some b) (hstep : step b.state = .next t) :
    stepAt k bs = .next (bs.set k { b with state := t }) := by
  induction k generalizing bs with
  | zero =>
    cases bs with
    | nil => cases hb
    | cons a bs =>
      obtain rfl : a = b := Option.some.inj hb
      simp only [stepAt, hstep, List.set_cons_zero]
  | succ k ih =>
    cases bs with
    | nil => cases hb
    | cons a bs => simp only [stepAt, ih hb, List.set_cons_succ]

/-- A number with no block behind it changes nothing. -/
theorem stepAt_of_none (hnone : bs[k]? = none) : stepAt k bs = .next bs := by
  induction k generalizing bs with
  | zero =>
    cases bs with
    | nil => rfl
    | cons a bs => cases hnone
  | succ k ih =>
    cases bs with
    | nil => rfl
    | cons a bs => simp only [stepAt, ih hnone]

/-- A step of the system is answered only where block `k` answers. -/
theorem step_of_stepAt (h : stepAt k bs = .next cs) (hb : bs[k]? = some b) : ∃ t, step b.state = .next t := by
  induction k generalizing bs cs with
  | zero =>
    cases bs with
    | nil => cases hb
    | cons a bs =>
      obtain rfl : a = b := Option.some.inj hb
      cases hstep : step a.state with
      | next t => exact ⟨t, rfl⟩
      | fault r => cases r
      | refused r => simp [stepAt, hstep] at h
  | succ k ih =>
    cases bs with
    | nil => cases hb
    | cons a bs =>
      cases hrest : stepAt k bs with
      | next ds => exact ih hrest hb
      | fault r => cases r
      | refused r => simp [stepAt, hrest] at h

/-- Everything a step of a system can do: nothing behind `k`, or block `k` alone. -/
theorem stepAt_cases (h : stepAt k bs = .next cs) :
    (bs[k]? = none ∧ cs = bs) ∨
    ∃ b t, bs[k]? = some b ∧ step b.state = .next t ∧ cs = bs.set k { b with state := t } := by
  cases hb : bs[k]? with
  | none =>
    rw [stepAt_of_none hb] at h
    exact .inl ⟨rfl, (Host.Outcome.next.inj h).symm⟩
  | some b =>
    obtain ⟨t, hstep⟩ := step_of_stepAt h hb
    rw [stepAt_of_step hb hstep] at h
    exact .inr ⟨b, t, rfl, hstep, (Host.Outcome.next.inj h).symm⟩

/-- The pins stay what they were (10_state.md R16: wiring, no state). -/
theorem map_pins_set (hb : bs[k]? = some b) (t : State) :
    (bs.set k { b with state := t }).map Block.pins = bs.map Block.pins := by
  obtain ⟨hk, rfl⟩ := List.getElem?_eq_some_iff.1 hb
  have hself := List.set_getElem_self (as := bs.map Block.pins) (i := k) (by simpa using hk)
  rw [List.getElem_map] at hself
  rw [List.map_set]
  exact hself

theorem stepAt_of_stepBlock (h : stepBlock k bs = .next cs) : stepAt k bs = .next cs := by
  unfold stepBlock at h
  split at h
  · exact h
  · cases h

theorem stepBlock_not_admitted (h : systemAdmitted bs = false) (k : Nat) : stepBlock k bs = .refused .sharedPins :=
  if_neg (by simp [h])

/-- The pins of one binding. -/
def pinsOf (p : PinBinding) : List Nat := [p.clockPin, p.selectPin, p.dataPin]

theorem mem_pins {p : PinBinding} {ps : List PinBinding} {x : Nat} (hp : p ∈ ps) (hx : x ∈ pinsOf p) :
    x ∈ PinBinding.pins ps := List.mem_flatMap.2 ⟨p, hp, hx⟩

/-- A pin on both sides of a cut in the bindings is used twice. -/
theorem not_admitted_of_common_pin {ps qs : List PinBinding} {x : Nat} (hp : x ∈ PinBinding.pins ps)
    (hq : x ∈ PinBinding.pins qs) : PinBinding.admitted (ps ++ qs) = false := by
  refine decide_eq_false fun hnodup => ?_
  rw [PinBinding.pins, List.flatMap_append] at hnodup
  exact List.disjoint_of_nodup_append hnodup hp hq

end Sys2Proof.Machine

namespace Sys2Proof.Proofs

open Sys2Proof.Machine

/-- Settles O57: a step of the system replaces the state of block `k`, by its own step, and nothing else. -/
theorem blocksAreIndependent : Obligations.BlocksAreIndependent := by
  refine ⟨fun k bs cs h => ?_, fun k bs b t hadmitted hb hstep => ?_⟩
  · obtain ⟨hnone, rfl⟩ | ⟨b, t, hb, hstep, rfl⟩ := stepAt_cases (stepAt_of_stepBlock h)
    · exact ⟨rfl, rfl, fun _ _ => rfl, fun b hb => by simp [hnone] at hb⟩
    · refine ⟨List.length_set, map_pins_set hb t, fun j hj => List.getElem?_set_ne hj.symm, fun b' hb' => ?_⟩
      obtain rfl : b = b' := Option.some.inj (hb.symm.trans hb')
      obtain ⟨hk, -⟩ := List.getElem?_eq_some_iff.1 hb
      exact ⟨t, hstep, List.getElem?_set_self hk⟩
  · rw [stepBlock, if_pos hadmitted, stepAt_of_step hb hstep]

/-- Settles O58: the pin occurs on both sides of the second block, so it is used twice. -/
theorem sharedPinsRefused : Obligations.SharedPinsRefused := by
  rintro xs ys zs a b ⟨p, ha, hb⟩
  have hleft : p ∈ PinBinding.pins ((xs ++ a :: ys).map Block.pins) :=
    mem_pins (List.mem_map_of_mem (by simp : a ∈ xs ++ a :: ys)) ha
  have hright : p ∈ PinBinding.pins ((b :: zs).map Block.pins) :=
    mem_pins (List.mem_map_of_mem List.mem_cons_self) hb
  have hnot : PinBinding.admitted ((xs ++ a :: ys ++ b :: zs).map Block.pins) = false := by
    rw [List.map_append]
    exact not_admitted_of_common_pin hleft hright
  exact ⟨hnot, stepBlock_not_admitted hnot⟩

end Sys2Proof.Proofs
end

section
/-! The code table of port `cmd` (30_encoding.md R65, R66), both ways, and the output ports (10_state.md section 7). -/

namespace Sys2Proof.Machine

theorem decode_of_lt {w : Nat} (h : w < 4) : decode w = .ok (decodeCmd (BitVec.ofNat 2 w)) := if_pos h

theorem decode_too_wide {w : Nat} (h : 4 ≤ w) : decode w = .error .notTwoBits := if_neg (Nat.not_lt.2 h)

/-- Every code that fits the port is a command (30_encoding.md R65, R66). -/
theorem decode_toNat (c : BitVec 2) : decode c.toNat = .ok (decodeCmd c) := by
  rw [decode_of_lt c.isLt, BitVec.ofNat_toNat, BitVec.setWidth_eq]

theorem encode_decodeCmd : ∀ c : BitVec 2, encode (decodeCmd c) = some c := by decide

theorem encode_isSome (i : Instr) : (encode i).isSome = i.wellFormed := by cases i <;> rfl

theorem decodeCmd_of_encode {i : Instr} {c : BitVec 2} (h : encode i = some c) : decodeCmd c = i := by
  cases i <;> cases h <;> rfl

theorem State.cmdReady_eq_true_iff (s : State) : s.cmdReady = true ↔ s.ph = .idle := beq_iff_eq

theorem Status.code_eq_zero_iff (a : Status) : a.code = 0 ↔ a = .none := Status.code_injective.eq_iff' rfl

end Sys2Proof.Machine

namespace Sys2Proof.Proofs

open Sys2Proof.Machine

/-- Settles O1: the four codes one by one, and a wider word is none of them. -/
theorem commandCodes : Obligations.CommandCodes :=
  ⟨rfl, rfl, rfl, rfl, by decide, by decide, fun _ => decode_too_wide⟩

/-- Settles O2: a row has a code exactly if it is well formed, and then reading the code back gives the row. -/
theorem decodeEncodeAgree : Obligations.DecodeEncodeAgree := by
  refine ⟨fun i hi => ?_, encode_decodeCmd, fun i hi => ?_⟩
  · obtain ⟨c, hc⟩ := Option.isSome_iff_exists.1 ((encode_isSome i).trans hi)
    exact ⟨c, hc, by rw [decode_toNat, decodeCmd_of_encode hc]⟩
  · rw [← Option.isNone_iff_eq_none, ← Option.not_isSome, encode_isSome, hi]
    rfl

/-- Settles O5: each port is its register, but for `cmd_ready` and `err`, which are tests of PH and STATUS. -/
theorem outputPortsShowRegisters : Obligations.OutputPortsShowRegisters := by
  intro s
  have herr : s.err = true ↔ s.status.code ≠ 0 := by rw [State.err_eq_true_iff, Ne, Ne, Status.code_eq_zero_iff]
  exact ⟨s.cmdReady_eq_true_iff, rfl, rfl, rfl, rfl, herr, rfl, rfl, rfl, rfl, rfl⟩

end Sys2Proof.Proofs
end
